-- ==== Sys2Proof/Word.lean ====
section
/-! DEFINITION. The plain word types of the part and the numbers its things are counted by (00_scope section 6). -/

namespace Sys2Proof

/-- One byte of the host link, the scan port or the tag channel. -/
abbrev Byte := BitVec 8

/-- Zone time: a 32-bit count of milliseconds since the last reset (00_scope section 6, R178). -/
abbrev Time := BitVec 32

/-- A 16-bit generation count, which wraps (R170). -/
abbrev Gen := BitVec 16

/-- A feeder number, 0–11. -/
abbrev FeederNo := Fin 12

/-- A supply section number, 0–11. -/
abbrev SectionNo := Fin 12

/-- A segment number, 0–31. -/
abbrev SegmentNo := Fin 32

/-- A gate number, 0–63. -/
abbrev GateNo := Fin 64

/-- A switch point number, 0–15. -/
abbrev PointNo := Fin 16

/-- A vehicle slot number, 0–47. -/
abbrev SlotNo := Fin 48

/-- A leg of a point: leg 0 or leg 1. -/
inductive Leg where
  | zero
  | one
  deriving DecidableEq, Repr

/-- The leg that is not the given one. -/
def Leg.other : Leg → Leg
  | .zero => .one
  | .one => .zero

@[simp] theorem Leg.other_other (l : Leg) : l.other.other = l := by cases l <;> rfl

@[simp] theorem Leg.other_ne (l : Leg) : l.other ≠ l := by cases l <;> decide

end Sys2Proof
end

