-- ==== Sys2Proof/Config.lean ====
section
/-! DEFINITION. What the spec leaves open, as constants without a value. -/

namespace Sys2Proof

/-- FREE VALUE (assumption log 4). The byte that stands at place `i` of a wire field for which R189 gives no encoding:
an absent field that is neither one byte wide (absent is 0xFF), nor a Δ (absent is 0x8000), nor a fleet number
(anonymous is 0). `what` numbers the field. Nothing in the model decides it, and no state depends on it: it stands only
in the bytes of an outgoing message. -/
opaque Config.unstatedByte (what : Nat) (i : Nat) : Byte

end Sys2Proof
end

