-- ==== Sys2Proof/Syntax.lean ====
section
/-! DEFINITION. The commands of the part: one constructor for each row of spec/opcode_table.json.

Three kinds of row stand in the table. A REQUEST row is the dispatch of one host request (R182): it carries the request's
tag and its arguments as the layouts of R189 give them, `none` standing for a payload of a wrong length. An INPUT row is
something that arrives at the part's lines: bytes, a level, a loss or return of supply. A TIMER or CONDITION row is the
moment a timer runs out or a condition comes to hold inside the part. -/

namespace Sys2Proof

/-- The arguments of a request: `none` when the payload has a wrong length for its kind (R182). -/
abbrev Args (α : Type) := Option α

/-- Arguments of READ_SETTINGS: record kind, index, source. -/
structure ReadSettingsArgs where
  kind : Byte
  index : Byte
  source : Byte
  deriving DecidableEq, Repr

/-- One field entry of WRITE_SETTINGS: a field number and a signed 4-byte value. -/
structure FieldEntry where
  field : Byte
  value : BitVec 32
  deriving DecidableEq, Repr

/-- Arguments of WRITE_SETTINGS: record kind, index, field entries. -/
structure WriteSettingsArgs where
  kind : Byte
  index : Byte
  entries : List FieldEntry
  deriving DecidableEq, Repr

/-- Arguments of SET_FLOOR: 0xFFFF or 0xFF leaves a cap unnamed. -/
structure SetFloorArgs where
  current : BitVec 16
  reclose : Byte
  deriving DecidableEq, Repr

/-- Arguments of LOCK_ADD and LOCK_REMOVE. -/
structure LockArgs where
  sec : Byte
  holder : Byte
  deriving DecidableEq, Repr

/-- Arguments of POINT_ROUTE (0 leg 0, 1 leg 1, 2 AUTO) and POINT_SERVICE (0 OUT, 1 IN). -/
structure PointArgs where
  point : Byte
  value : Byte
  deriving DecidableEq, Repr

/-- Arguments of VEHICLE_PLACE: fleet number 0 is anonymous, bit 0 of the flags is the claim mark. -/
structure PlaceArgs where
  segment : Byte
  fleet : BitVec 16
  flags : Byte
  deriving DecidableEq, Repr

/-- Arguments of VEHICLE_REMOVE: form 0 names a slot, form 1 a segment. -/
structure RemoveArgs where
  form : Byte
  index : Byte
  deriving DecidableEq, Repr

/-- Arguments of INJECT: pattern 0 NONE, 1 STEP, 2 RAMP; `levelOrSlope` is the step level or the slope. -/
structure InjectArgs where
  feeder : Byte
  pattern : Byte
  base : BitVec 16
  levelOrSlope : BitVec 16
  length : BitVec 16
  stepScan : BitVec 16
  deriving DecidableEq, Repr

/-- Arguments of WATCH: bit k of the set is feeder k; the period is in ms. -/
structure WatchArgs where
  feeders : BitVec 16
  period : BitVec 16
  deriving DecidableEq, Repr

/-- The field inputs of a gate: its two contacts and the current flag of the positive skate (06 section 6.1). -/
inductive GateInput where
  | positive
  | negative
  | currentFlag
  deriving DecidableEq, Repr

/-- One of a gate's two contacts. -/
inductive Contact where
  | positive
  | negative
  deriving DecidableEq, Repr

/-- The commands of the part, one constructor for each row of the table. -/
inductive Instr where
  -- host link: bytes in, message out (R180, R182, R183)
  | envelopeReceived (bytes : List Byte)
  | envelopeTimeout
  | requestBadKind (kind tag : Byte)
  | messageSent
  -- host requests (R182; arguments as R189 lays them out)
  | identify (tag : Byte) (args : Args Unit) (maint : Bool)
  | status (tag : Byte) (args : Args Unit)
  | readFeeder (tag : Byte) (feeder : Args Byte)
  | readTripRecord (tag : Byte) (feeder : Args Byte)
  | clearTripRecord (tag : Byte) (feeder : Args Byte)
  | readSection (tag : Byte) (sec : Args Byte)
  | readSegment (tag : Byte) (segment : Args Byte)
  | readPoint (tag : Byte) (point : Args Byte)
  | readVehicle (tag : Byte) (slot : Args Byte)
  | findVehicle (tag : Byte) (fleet : Args (BitVec 16))
  | readSettings (tag : Byte) (args : Args ReadSettingsArgs)
  | writeSettings (tag : Byte) (args : Args WriteSettingsArgs)
  | storeSettings (tag : Byte) (args : Args Unit)
  | storeComplete (good : Bool)
  | setFloor (tag : Byte) (args : Args SetFloorArgs) (maint : Bool)
  | setMode (tag : Byte) (mode : Args Byte)
  | drainComplete
  | feederClose (tag : Byte) (feeder : Args Byte)
  | feederOpen (tag : Byte) (feeder : Args Byte)
  | feederReset (tag : Byte) (feeder : Args Byte)
  | incomerReset (tag : Byte) (group : Args Byte)
  | lockAdd (tag : Byte) (args : Args LockArgs)
  | lockRemove (tag : Byte) (args : Args LockArgs)
  | pointRoute (tag : Byte) (args : Args PointArgs)
  | pointService (tag : Byte) (args : Args PointArgs)
  | pointExercise (tag : Byte) (point : Args Byte)
  | pointReset (tag : Byte) (point : Args Byte)
  | zoneClear (tag : Byte) (point : Args Byte)
  | vehiclePlace (tag : Byte) (args : Args PlaceArgs)
  | vehicleRemove (tag : Byte) (args : Args RemoveArgs)
  | vehicleClear (tag : Byte) (slot : Args Byte)
  | inject (tag : Byte) (args : Args InjectArgs)
  | watch (tag : Byte) (args : Args WatchArgs)
  | noticeClasses (tag : Byte) (flags : Args Byte)
  | restart (tag : Byte) (args : Args Unit)
  -- resets and supply (R171, R177, R178); the straps are read at a reset (R179). RESET_LINE carries the new level of the external
  -- reset input, whose release is the reset, and the straps RATE0 and RATE1 as they are then
  | restartReset (rate0 rate1 : Bool)
  | powerOn (backupHeld rate0 rate1 : Bool)
  | resetLine (asserted : Bool) (straps : Bool × Bool)
  | powerLoss (midUpdate : Bool)
  | watchTimerExpiry
  -- scan port (R14, R15, R19)
  | scanReceived (bytes : List Byte)
  | scanByteTimeout
  | overdueWaitExpiry
  -- breakers (R56, R57, R62, R69, R70, R71)
  | auxOpened (feeder : FeederNo)
  | auxClosed (feeder : FeederNo)
  | readyChange (feeder : FeederNo) (present : Bool)
  | openConfirmExpiry (feeder : FeederNo)
  | closeConfirmExpiry (feeder : FeederNo)
  | deadTimerExpiry (feeder : FeederNo)
  | deadTimeHoldsClear (feeder : FeederNo)
  | readyWaitExpiry (feeder : FeederNo)
  | reclaimTimerExpiry (feeder : FeederNo)
  -- gates (R92, R97, R99)
  | contactInputChange (gate : GateNo) (input : GateInput) (active : Bool)
  | contactAccepted (gate : GateNo) (contact : Contact)
  | poleTimerExpiry (gate : GateNo)
  | stuckTimerExpiry (gate : GateNo)
  -- vehicles (R161)
  | decayTimerExpiry (slot : SlotNo)
  -- tag channel and reservations (R127, R128)
  | telegramReceived (bytes : List Byte)
  | telegramByteTimeout
  | reservationExpiry (point : PointNo) (fleet : Nat)
  -- points and proving (R126, R133–R138, R149–R154)
  | movementStart (point : PointNo)
  | detectorChange (point : PointNo) (det0 det1 : Bool)
  | arrivalWaitExpiry (point : PointNo)
  | moveTimerExpiry (point : PointNo)
  | detectionWaitExpiry (point : PointNo)
  | overdueTimerExpiry (point : PointNo)
  | provingLevelChange (point : PointNo)
  | quietTimerExpiry (point : PointNo)
  | exerciseStart (point : PointNo)
  | exerciseReturn (point : PointNo)
  deriving DecidableEq, Repr

end Sys2Proof
end

