-- ==== Sys2Proof/Machine/State.lean ====
section
/-! DEFINITION. The state of the JZ16, block by block (00_scope section 4), as plain data, and its reset value. -/

namespace Sys2Proof.Machine

/-! ## Names -/

/-- Operating modes (R173). -/
inductive Mode where
  | run
  | draining
  | configure
  deriving DecidableEq, Repr

/-- Reset causes (R178). -/
inductive ResetCause where
  | powerOn
  | resetLine
  | restart
  deriving DecidableEq, Repr

/-- Incomer groups: the busbar a feeder is supplied from (R7). -/
inductive Group where
  | a
  | b
  deriving DecidableEq, Repr

/-- Host link rates (R179), in baud. -/
inductive Rate where
  | baud57600
  | baud115200
  | baud230400
  | baud460800
  deriving DecidableEq, Repr

/-- Gate roles (R2), in the order of R189's numbering. -/
inductive GateRole where
  | plain
  | entry
  | exit0
  | exit1
  | unused
  deriving DecidableEq, Repr

/-- The captured current flag (R93). -/
inductive CurrentFlag where
  | drawing
  | coasting
  | unknown
  deriving DecidableEq, Repr

/-- The missing pole of a passage (R93). -/
inductive Missing where
  | none
  | positive
  | negative
  deriving DecidableEq, Repr

/-! ## Topology and settings (R2, R30, R53, R78, R93, R125, R147, R158, R172) -/

/-- Topology fields of a FEEDER record. -/
structure FeederTopo where
  enabled : Bool
  sec : Option SectionNo
  group : Group
  deriving DecidableEq, Repr

/-- Topology fields of a GATE record; `none` is OFF. -/
structure GateTopo where
  role : GateRole
  src : Option SegmentNo
  dst : Option SegmentNo
  deriving DecidableEq, Repr

/-- Topology fields of a POINT record. -/
structure PointTopo where
  fitted : Bool
  approach : SegmentNo
  leg0 : SegmentNo
  leg1 : SegmentNo
  entry : GateNo
  exit0 : GateNo
  exit1 : GateNo
  deriving DecidableEq, Repr

/-- The topology: what is connected to what (R2, R3). -/
structure Topology where
  feeders : Vector FeederTopo 12
  lists : Vector (List FeederNo) 12
  segments : Vector SectionNo 32
  gates : Vector GateTopo 64
  points : Vector PointTopo 16
  deriving DecidableEq, Repr

/-- A FEEDER setting record; times in ms, H as a whole number. -/
structure FeederSet where
  topo : FeederTopo
  iMax : Nat
  rStart : Nat
  rHold : Nat
  deltaTrip : Nat
  nDelta : Nat
  tRiseMax : Nat
  nMask : Nat
  iRevMax : Nat
  iCont : Nat
  hTrip : Nat
  hReclose : Nat
  tOpenConf : Nat
  tCloseConf : Nat
  tDead : Nat
  tReady : Nat
  tReclaim : Nat
  nReclose : Nat
  nSettle : Nat
  deriving DecidableEq, Repr

/-- A SECTION setting record. -/
structure SectionSet where
  feeders : List FeederNo
  gVeh : Nat
  uBusMin : Nat
  gFault : Nat
  uLive : Nat
  uDead : Nat
  deriving DecidableEq, Repr

/-- A GATE setting record. -/
structure GateSet where
  topo : GateTopo
  tPole : Nat
  tStuck : Nat
  deriving DecidableEq, Repr

/-- A POINT setting record. -/
structure PointSet where
  topo : PointTopo
  defaultLeg : Leg
  powerLeg : Leg
  currentOn : Bool
  tagReader : Bool
  tMove : Nat
  tResv : Nat
  tZone : Nat
  tProve : Nat
  tGrace : Nat
  tQuiet : Nat
  deriving DecidableEq, Repr

/-- The ZONE setting record. -/
structure ZoneSet where
  tDecay : Nat
  tAttrib : Nat
  deriving DecidableEq, Repr

/-- A whole set of settings: the working set or the stored set (R168), with the two floor caps (R172). -/
structure Settings where
  zone : ZoneSet
  feeders : Vector FeederSet 12
  sections : Vector SectionSet 12
  segments : Vector SectionNo 32
  gates : Vector GateSet 64
  points : Vector PointSet 16
  floorCurrent : Nat
  floorReclose : Nat
  deriving DecidableEq, Repr

/-- Factory defaults of a FEEDER record (R2, R30, R53). -/
def FeederSet.factory : FeederSet where
  topo := ⟨false, none, .a⟩
  iMax := 4000
  rStart := 200
  rHold := 80
  deltaTrip := 1500
  nDelta := 3
  tRiseMax := 100
  nMask := 200
  iRevMax := 500
  iCont := 1000
  hTrip := 300000000
  hReclose := 150000000
  tOpenConf := 100
  tCloseConf := 200
  tDead := 5000
  tReady := 10000
  tReclaim := 60000
  nReclose := 2
  nSettle := 50

/-- Factory defaults of a SECTION record (R2, R53, R78). -/
def SectionSet.factory : SectionSet where
  feeders := []
  gVeh := 6
  uBusMin := 500
  gFault := 250
  uLive := 400
  uDead := 50

/-- Factory defaults of a GATE record (R2, R93). -/
def GateSet.factory : GateSet where
  topo := ⟨.unused, none, none⟩
  tPole := 1500
  tStuck := 120000

/-- Factory defaults of a POINT record (R2, R125, R147). -/
def PointSet.factory : PointSet where
  topo := ⟨false, 0, 0, 0, 0, 0, 0⟩
  defaultLeg := .zero
  powerLeg := .zero
  currentOn := false
  tagReader := false
  tMove := 2000
  tResv := 30000
  tZone := 120000
  tProve := 900000
  tGrace := 120000
  tQuiet := 10000

/-- The factory defaults (R178): every setting at its stated default, floor caps 6000 A and 3. -/
def Settings.factory : Settings where
  zone := ⟨300000, 2000⟩
  feeders := Vector.replicate 12 FeederSet.factory
  sections := Vector.replicate 12 SectionSet.factory
  segments := Vector.replicate 32 0
  gates := Vector.replicate 64 GateSet.factory
  points := Vector.replicate 16 PointSet.factory
  floorCurrent := 6000
  floorReclose := 3

/-- The factory topology (R3): no feeder enabled, no gate used, no point fitted. -/
def Topology.factory : Topology where
  feeders := Vector.replicate 12 ⟨false, none, .a⟩
  lists := Vector.replicate 12 []
  segments := Vector.replicate 32 0
  gates := Vector.replicate 64 ⟨.unused, none, none⟩
  points := Vector.replicate 16 ⟨false, 0, 0, 0, 0, 0, 0⟩

/-! ## Input lines (00_scope section 3) -/

/-- The levels of the input lines, as the part last saw them. A reset leaves them as they are: they are the outside's. -/
structure Pins where
  aux : Vector Bool 12
  ready : Vector Bool 12
  positive : Vector Bool 64
  negative : Vector Bool 64
  currentFlag : Vector Bool 64
  det0 : Vector Bool 16
  det1 : Vector Bool 16
  maint : Bool
  rate0 : Bool
  rate1 : Bool
  resetLine : Bool
  deriving DecidableEq, Repr

/-! ## Scan port (chapter 2) -/

/-- One current: clamped amperes and the saturated mark (R16). -/
structure Sample where
  amps : Int
  sat : Bool
  deriving DecidableEq, Repr

/-- A clamped scan; the sequence is absent before the first valid scan (R28). -/
structure Scan where
  seq : Option (BitVec 4)
  current : Vector Sample 12
  line : Vector Nat 12
  busA : Nat
  busB : Nat
  deriving DecidableEq, Repr

/-- A measurement as delivered (R18). -/
structure Measurement where
  held : Bool
  broken : Bool
  blind : Bool
  seq : Option (BitVec 4)
  time : Time
  current : Vector Sample 12
  injected : Vector (Option Sample) 12
  line : Vector Nat 12
  busA : Nat
  busB : Nat
  deriving DecidableEq, Repr

/-- Injection patterns (R23). -/
inductive Pattern where
  | none
  | step
  | ramp
  deriving DecidableEq, Repr

/-- A feeder's injection record (R23–R26). `arg` is the step level or the slope; `last` is the injected current of the last
measurement delivered since the pattern started. -/
structure Injection where
  pattern : Pattern
  base : Int
  arg : Int
  length : Nat
  stepScan : Nat
  position : Nat
  last : Option Sample
  deriving DecidableEq, Repr

/-- The Scan Port block. -/
structure Scp where
  rx : List Byte
  last : Scan
  lastTime : Time
  overdueAt : Time
  heldRun : Nat
  blind : Bool
  blindSince : Time
  validRun : Nat
  injection : Vector Injection 12
  latest : Option Measurement
  deriving DecidableEq, Repr

/-! ## Feeder protection (R29) -/

/-- The last four detector currents, oldest first. -/
structure History where
  h1 : Int
  h2 : Int
  h3 : Int
  h4 : Int
  deriving DecidableEq, Repr

/-- A run of consecutive samples with its peak and mark. -/
structure Run where
  count : Nat
  peak : Nat
  sat : Bool
  deriving DecidableEq, Repr

/-- The DELTA window record; `rising = false` is QUIET. -/
structure Window where
  rising : Bool
  iStart : Int
  length : Nat
  overs : Nat
  peak : Nat
  sat : Bool
  deriving DecidableEq, Repr

/-- A feeder's protection record. `refill` is set when the next step is to be treated, for DELTA, as broken (R48). -/
structure Protection where
  history : History
  inst : Run
  window : Window
  reverse : Run
  heat : Nat
  mask : Nat
  shadow : Option Nat
  refill : Bool
  deriving DecidableEq, Repr

/-! ## Breaker Sequencer (chapter 4) -/

/-- Breaker states (R52). -/
inductive BState where
  | opened
  | closing
  | closed
  | opening
  | deadTime
  | testing
  | lockedOut
  | stuck
  deriving DecidableEq, Repr

/-- Trip causes (04 section 4.2), most severe first. -/
inductive TripCause where
  | stuck
  | reverse
  | inst
  | delta
  | thermal
  | external
  | intertrip
  deriving DecidableEq, Repr

/-- Lockout causes (R61). -/
inductive LockoutCause where
  | reverse
  | noReclose
  | testFail
  | busLow
  | noClose
  | notReady
  | partner
  deriving DecidableEq, Repr

/-- The cause of an opening (R56): a trip or a host open. -/
inductive OpenCause where
  | trip (cause : TripCause)
  | hostOpen
  deriving DecidableEq, Repr

/-- A candidate: slot and fleet number, `none` for anonymous. -/
structure Candidate where
  slot : SlotNo
  fleet : Option Nat
  deriving DecidableEq, Repr

/-- A trip as the trip record holds it (R75). The peak is absent only for a STUCK trip of a host opening. -/
structure TripRecord where
  cause : TripCause
  time : Time
  peak : Option Nat
  sat : Bool
  delta : Option Int
  heat : Nat
  attempt : Nat
  candidates : List Candidate
  total : Nat
  suspect : Option SlotNo
  deriving DecidableEq, Repr

/-- Line-test phases and sums (R64, R65). -/
inductive LineTest where
  | idle
  | settle (counted : Nat)
  | average (vehicles counted sumI sumU sumBus : Nat)
  deriving DecidableEq, Repr

/-- Line-test outcomes (R66, R72). -/
inductive TestOutcome where
  | pass
  | fail
  | inconclusive
  | abandoned
  deriving DecidableEq, Repr

/-- A judged line test (R66). -/
structure Judged where
  vehicles : Nat
  sumI : Nat
  sumU : Nat
  busAverage : Nat
  g : Nat
  correction : Nat
  gFault : Nat
  outcome : TestOutcome
  deriving DecidableEq, Repr

/-- A feeder's breaker record (R52, R54, R60, R62, R69, R70). Timers hold the zone time at which they expire. -/
structure Breaker where
  state : BState
  cause : OpenCause
  begun : Option TripRecord
  inSequence : Bool
  attempts : Nat
  limited : Bool
  follows : Bool
  automatic : Bool
  closeOut : Bool
  expired : Bool
  openTimer : Option Time
  closeTimer : Option Time
  deadTimer : Option Time
  readyWait : Option Time
  reclaim : Option Time
  test : LineTest
  judged : Option Judged
  deriving DecidableEq, Repr

/-- The Breaker Sequencer block: one record per feeder and the two incomer latches (R58). -/
structure Bsq where
  breakers : Vector Breaker 12
  latchA : Bool
  latchB : Bool
  deriving DecidableEq, Repr

/-! ## Section Monitor (chapter 5) -/

/-- A section's record (R79–R85); the lock list is in the retained area. -/
structure SectionRec where
  live : Bool
  voltage : Nat
  liveCount : Nat
  deadCount : Nat
  backfeedCount : Nat
  fed : Bool
  backfeed : Bool
  supplyLost : Bool
  deriving DecidableEq, Repr

/-! ## Gate Scanner (chapter 6) -/

/-- Gate states (R93). -/
inductive GState where
  | armed
  | engaged
  | held
  deriving DecidableEq, Repr

/-- A gate's record (R92, R93): the debounced contacts and the passage in flight. -/
structure GateRec where
  posLevel : Bool
  negLevel : Bool
  posWait : Option Time
  negWait : Option Time
  state : GState
  settling : Bool
  posSeen : Bool
  negSeen : Bool
  flag : CurrentFlag
  engagedAt : Time
  missing : Missing
  poleTimer : Option Time
  stuckTimer : Option Time
  stuck : Bool
  deriving DecidableEq, Repr

/-! ## Vehicle Tracker (chapters 7 and 10) -/

/-- The fault flags of a vehicle record (R103, R158). -/
structure FaultFlags where
  poleFault : Bool
  wrongLeg : Bool
  overdue : Bool
  bridging : Bool
  doubtful : Bool
  faulted : Bool
  deriving DecidableEq, Repr

/-- A vehicle record (R103, R158); fleet `none` is anonymous. -/
structure Vehicle where
  fleet : Option Nat
  segment : SegmentNo
  gate : Option GateNo
  entryTime : Time
  lastActivity : Time
  lastFlag : CurrentFlag
  suspicion : Nat
  flags : FaultFlags
  decay : Option Time
  deriving DecidableEq, Repr

/-- The Vehicle Tracker block: slots (`none` is free), segment queues (head first) and untracked counts. -/
structure Vtr where
  slots : Vector (Option Vehicle) 48
  queues : Vector (List SlotNo) 32
  untracked : Vector Nat 32
  deriving DecidableEq, Repr

/-! ## Point Controller (chapters 8 and 9) -/

/-- Point states (R124). -/
inductive PState where
  | unknown
  | set
  | moving
  | failed
  | outOfService
  deriving DecidableEq, Repr

/-- Failure causes of a point (R124). -/
inductive FailCause where
  | move
  | detection
  | overfull
  deriving DecidableEq, Repr

/-- The host's route override (R124). -/
inductive Route where
  | fixed (leg : Leg)
  | auto
  deriving DecidableEq, Repr

/-- Route sources (R124). -/
inductive Source where
  | override
  | tag
  | current
  | default
  | undetermined
  deriving DecidableEq, Repr

/-- Aspects (R139); MOVING names the target leg. -/
inductive Aspect where
  | dark
  | proceed (leg : Leg)
  | caution (leg : Leg)
  | moving (target : Leg)
  | stop
  deriving DecidableEq, Repr

/-- A zone queue entry (R124). `mark` is the zone time at which the proceed-given mark was set, `none` while it is clear. -/
structure ZoneEntry where
  slot : SlotNo
  leg : Leg
  source : Source
  mark : Option Time
  overdue : Option Time
  deriving DecidableEq, Repr

/-- A reservation (R124, R128): `arrived` is its last arrival, `expires` the expiry it was given then. -/
structure Reservation where
  fleet : Nat
  leg : Option Leg
  arrived : Time
  expires : Time
  deriving DecidableEq, Repr

/-- Proving levels (R149). -/
inductive Level where
  | fresh
  | due
  | overdue
  | lapsed
  deriving DecidableEq, Repr

/-- Exercise phases (R147). -/
inductive Phase where
  | idle
  | outbound
  | returnWait
  | returning
  deriving DecidableEq, Repr

/-- A point's proving record (R147). -/
structure Proving where
  proofTime : Time
  level : Level
  phase : Phase
  home : Leg
  quietTimer : Option Time
  ready : Bool
  request : Bool
  proofs : Nat
  exercises : Nat
  deriving DecidableEq, Repr

/-- A point's record (R124). `leg` is the set leg in SET and UNKNOWN and the target in MOVING; the drives follow from the
state (R126). -/
structure PointRec where
  state : PState
  leg : Leg
  failure : Option FailCause
  confirmed : Bool
  queue : List ZoneEntry
  reservations : List Reservation
  route : Route
  proofDemand : Bool
  serviceOut : Bool
  aspect : Aspect
  cadence : Time
  moveTimer : Option Time
  arrivalWait : Option Time
  detectionWait : Option Time
  proving : Proving
  deriving DecidableEq, Repr

/-- The Point Controller block: the telegram assembly (R127) and the points. -/
structure Ptc where
  rx : List Byte
  points : Vector PointRec 16
  deriving DecidableEq, Repr

/-! ## Notices (chapter 12) -/

/-- Notice classes, highest rank first (12 section 12.5). -/
inductive NoticeClass where
  | alarm
  | event
  | info
  deriving DecidableEq, Repr

/-- The fault events of R158, with what R159 adds for each. The exit leg of an OVERDUE is the leg of the entry whose overdue timer
has run out (assumption log 22). -/
inductive FaultEvent where
  | suspect (feeder : FeederNo)
  | bridging (gate : GateNo)
  | poleFault (gate : GateNo) (missing : Missing)
  | wrongLeg (point : PointNo) (leg : Leg)
  | overdue (point : PointNo) (leg : Leg)
  | doubtful
  deriving DecidableEq, Repr

/-- A bridging gate as the BACKFEED notice names it (R84). -/
structure Bridge where
  gate : GateNo
  other : SectionNo
  vehicle : Option Candidate
  deriving DecidableEq, Repr

/-- Why a record could not be added (R113). -/
inductive NoRoom where
  | queueFull
  | tableFull
  deriving DecidableEq, Repr

/-- The causes a POINT_SET notice gives (R134, R142–R144). -/
inductive SetCause where
  | movement
  | service
  | reset
  | zoneClear
  deriving DecidableEq, Repr

/-- The exercise mark of a POINT_SET notice (R153, R154). -/
inductive ExerciseMark where
  | none
  | outbound
  | returning
  deriving DecidableEq, Repr

/-- What a notice says, by kind, its fields in the order the owning rules list them. SUPPLY_LOST CLEARED gives its reason and
nothing else (R85; assumption log 30). -/
inductive NoticeBody where
  | reset (cause : ResetCause) (retentionValid storedValid : Bool) (mode : Mode) (time : Time)
  | mode (old new : Mode) (time : Time)
  | storeDone (good : Bool) (generation : Gen) (accepted completed : Time)
  | trip (feeder : FeederNo) (trip : TripRecord) (replaced : Bool)
  | lockout (feeder : FeederNo) (cause : LockoutCause) (attempts : Nat)
  | breakerFail (feeder : FeederNo) (group : Group) (cause : OpenCause)
  | backfeedEntered (sec : SectionNo) (time : Time) (voltage count : Nat) (gates : List Bridge) (sourceUnknown : Bool)
  | backfeedCleared (sec : SectionNo) (time : Time) (fed : Bool)
  | supplyLostEntered (sec : SectionNo) (time : Time) (voltage : Nat) (feeders : List FeederNo)
  | supplyLostCleared (live : Bool)
  | pointFailed (point : PointNo) (cause : FailCause) (leg : Option Leg) (det0 det1 : Bool)
  | pointLapsed (point : PointNo) (state : PState) (leg : Option Leg) (proof time : Time)
  | zoneOverfull (point : PointNo) (approach : SegmentNo) (slot : Option SlotNo) (time : Time)
  | trackingMoved (point : PointNo) (fleet : Nat) (slot : SlotNo) (oldSegment : SegmentNo) (oldPosition : Nat)
      (displaced : Option Candidate)
  | trackingRenamed (point : PointNo) (expected : SlotNo) (fleet : Nat) (slot : SlotNo) (segment : SegmentNo)
  | blindEntered (lastValid : Option (Time × BitVec 4)) (since : Time)
  | blindLeft (since left : Time)
  | gateStuck (gate : GateNo) (role : GateRole) (engagedAt : Time) (posSeen negSeen posLevel negLevel : Bool)
      (missing : Missing) (settling : Bool)
  | gateCleared (gate : GateNo) (time : Time)
  | faultedEntered (slot : SlotNo) (fleet : Option Nat) (segment : SegmentNo) (suspicion : Nat) (flags : FaultFlags) (time : Time)
  | faultedCleared (slot : SlotNo) (fleet : Option Nat) (flags : FaultFlags) (time : Time)
  | vehicleFault (slot : SlotNo) (fleet : Option Nat) (segment : SegmentNo) (fault : FaultEvent) (points suspicion : Nat)
      (flags : FaultFlags) (time : Time)
  | strayPoleFault (gate : GateNo) (missing : Missing) (time : Time)
  | testTrip (feeder : FeederNo) (cause : TripCause) (time : Time) (peak : Nat) (sat : Bool) (delta : Option Int)
      (shadow position : Nat)
  | reclosed (feeder : FeederNo) (attempts : Nat)
  | testFail (feeder : FeederNo) (outcome : TestOutcome) (judged : Option Judged)
  | uncommanded (feeder : FeederNo) (left : BState)
  | sectionState (sec : SectionNo) (live : Bool) (voltage : Nat) (fed : Bool) (holders : Nat) (time : Time)
  | orderConflict (point : PointNo) (first second : Candidate) (time : Time)
  | appeared (gate : GateNo) (segment : SegmentNo) (slot : SlotNo) (fleet : Option Nat) (behind : Option SlotNo) (time : Time)
  | untracked (segment : SegmentNo) (time : Time) (reason : NoRoom) (freed : Option Candidate) (count : Nat) (lost : Bool)
  | entryMissed (point : PointNo) (gate : GateNo) (leg : Leg) (vehicle : Option Candidate) (time : Time)
  | passage (gate : GateNo) (src dst : Option SegmentNo) (vehicle : Option Candidate) (untracked : Bool) (flag : CurrentFlag)
      (missing : Missing) (engagedAt time : Time) (stay : Option Nat)
  | measure (set : List FeederNo) (measurement : Option Measurement) (injecting : List FeederNo)
  | pointSet (point : PointNo) (leg : Leg) (cause : SetCause) (exercise : ExerciseMark)
  deriving DecidableEq, Repr

/-- A queued notice: what it says, its class and the zone time at which it was raised (R186). -/
structure Notice where
  body : NoticeBody
  cls : NoticeClass
  time : Time
  deriving DecidableEq, Repr

/-! ## Replies (chapter 12) -/

/-- The results of R182, in the order of their codes 0–14. -/
inductive Result where
  | ok
  | clamped
  | badKind
  | badLength
  | badIndex
  | badValue
  | state
  | mode
  | busy
  | locked
  | full
  | notHeld
  | thermal
  | blind
  | injecting
  deriving DecidableEq, Repr

/-- The three-byte detail of a refusal (R182): a record kind, an index, a field or check number; `none` is 0xFF. -/
structure Detail where
  kind : Option Nat
  index : Option Nat
  field : Option Nat
  deriving DecidableEq, Repr

/-- Dead-time holds (R62). -/
inductive Hold where
  | mode
  | blind
  | thermal
  | locked
  | backfeed
  | bridge
  | ready
  | partner
  deriving DecidableEq, Repr

/-- What READ_FEEDER reports (R49, R52, R66, R23). -/
structure FeederReport where
  heat : Nat
  cooling : Nat
  rising : Bool
  runLength : Nat
  overCount : Nat
  instRun : Nat
  reverseRun : Nat
  mask : Nat
  shadow : Option Nat
  state : BState
  attempts : Nat
  limit : Nat
  timer : Option Nat
  test : LineTest
  judged : Option Judged
  lockout : Option LockoutCause
  holds : List Hold
  injection : Injection
  deriving DecidableEq, Repr

/-- What READ_SECTION reports (R90). -/
structure SectionReport where
  live : Bool
  voltage : Nat
  liveCount : Nat
  deadCount : Nat
  backfeedCount : Nat
  fed : Bool
  underTest : Bool
  backfeed : Bool
  supplyLost : Bool
  locks : List Nat
  feeders : List FeederNo
  segments : List SegmentNo
  breakGates : List GateNo
  deriving DecidableEq, Repr

/-- A gate report (R102). -/
structure GateReport where
  gate : GateNo
  role : GateRole
  record : GateRec
  breakGate : Bool
  deriving DecidableEq, Repr

/-- What READ_SEGMENT reports (R122). -/
structure SegmentReport where
  sec : SectionNo
  queue : List (Candidate × Option GateNo)
  untracked : Nat
  point : Option (PointNo × Nat)
  gates : List GateReport
  deriving DecidableEq, Repr

/-- A zone queue entry as READ_POINT reports it (R145): the entry, its record's fleet number, the overdue timer's remaining ms. -/
structure EntryReport where
  entry : ZoneEntry
  fleet : Option Nat
  overdueLeft : Option Nat
  deriving DecidableEq, Repr

/-- What READ_POINT reports (R145, R157). -/
structure PointReport where
  record : PointRec
  entries : List EntryReport
  reservations : List (Reservation × Nat)
  det0 : Bool
  det1 : Bool
  drive0 : Bool
  drive1 : Bool
  lamp0 : Bool
  lamp1 : Bool
  lampX : Bool
  moveLeft : Option Nat
  age : Nat
  quietLeft : Option Nat
  deriving DecidableEq, Repr

/-- What IDENTIFY reports (R184); the part name and revision are constants of its layout. -/
structure Identity where
  working : Gen
  stored : Gen
  topology : Gen
  storedValid : Bool
  retentionValid : Bool
  maint : Bool
  cause : ResetCause
  deriving DecidableEq, Repr

/-- What STATUS reports (R184). -/
structure StatusReport where
  mode : Mode
  storing : Bool
  blind : Bool
  overflow : Bool
  latchA : Bool
  latchB : Bool
  queued : Nat
  linkErrors : Nat
  overruns : Nat
  time : Time
  deriving DecidableEq, Repr

/-- The data of a reply. -/
inductive ReplyData where
  | none
  | detail (d : Detail)
  | identity (r : Identity)
  | status (r : StatusReport)
  | feeder (r : FeederReport)
  | trip (record : Option TripRecord) (count : Nat)
  | sec (r : SectionReport)
  | segment (r : SegmentReport)
  | point (r : PointReport)
  | vehicle (record : Option (Vehicle × Nat))
  | found (slot : Option (SlotNo × Vehicle × Nat))
  | settings (fields : List Int)
  | floors (current reclose : Nat)
  | locks (already : Option Bool) (holders : List Nat)
  | placed (slot : SlotNo)
  | removed (fleet : Option Nat) (segment : SegmentNo) (position : Nat)
  | untracked (count : Nat)
  | cleared (suspicion : Nat) (flags : FaultFlags)
  | classes (event info : Bool)
  deriving DecidableEq, Repr

/-- A reply: its kind, the request's tag, its result and its data (R182). `restarts` marks the reply of an accepted RESTART. -/
structure Reply where
  kind : Byte
  tag : Byte
  result : Result
  data : ReplyData
  restarts : Bool
  deriving DecidableEq, Repr

/-- A message in transmission (R183); a notice carries the overflow mark it began with (R187). -/
inductive Message where
  | reply (r : Reply)
  | notice (n : Notice) (overflow : Bool)
  deriving DecidableEq, Repr

/-- Where a RESTART stands (R177): none, answered and its reply not yet sent in full, or due. -/
inductive RestartPhase where
  | none
  | answered
  | due
  deriving DecidableEq, Repr

/-- The Link Controller block. -/
structure Lnk where
  rate : Rate
  rx : List Byte
  requests : List (List Byte)
  replySlot : Option Reply
  notices : List Notice
  overflow : Bool
  eventEnabled : Bool
  infoEnabled : Bool
  watchSet : List FeederNo
  watchPeriod : Nat
  watchTimer : Option Time
  linkErrors : Nat
  overruns : Nat
  transmitting : Option Message
  restart : RestartPhase
  deriving DecidableEq, Repr

/-! ## Settings Store and retained area (chapter 11) -/

/-- A store in progress (R171): the copy being written and the generations and zone time of its acceptance. -/
structure StoreJob where
  copy : Settings
  working : Gen
  topology : Gen
  accepted : Time
  deriving DecidableEq, Repr

/-- The Settings Store block. -/
structure Sst where
  working : Settings
  stored : Settings
  storedValid : Bool
  storedWorkingGen : Gen
  storedTopologyGen : Gen
  job : Option StoreJob
  active : Topology
  workingGen : Gen
  topologyGen : Gen
  notedGen : Gen
  mode : Mode
  cause : ResetCause
  retentionValid : Bool
  deriving DecidableEq, Repr

/-- The retained area (R175): lock lists, lockouts, trip records and counts; `intact` is whether its check would pass. -/
structure Retained where
  intact : Bool
  locks : Vector (List Nat) 12
  lockouts : Vector (Option LockoutCause) 12
  trips : Vector (Option TripRecord) 12
  tripCounts : Vector Nat 12
  deriving DecidableEq, Repr

/-! ## Outcomes -/

/-- The faults of the part: none. The spec gives every command an effect or an answer, so no command stops the machine. -/
inductive Fault where
  deriving DecidableEq, Repr

/-- The refusals of the model. `notModelled` is raised only by an arm of exec whose row has no meaning yet (safe: the run
stops); no arm raises it. -/
inductive Refusal where
  | notModelled (mnemonic : String)
  deriving DecidableEq, Repr

/-! ## The whole state -/

/-- The state of the part, of its input lines, and of the queue of commands that wait. -/
structure State where
  now : Time
  powered : Bool
  pins : Pins
  lnk : Lnk
  sst : Sst
  ret : Retained
  scp : Scp
  fpu : Vector Protection 12
  bsq : Bsq
  sem : Vector SectionRec 12
  gsc : Vector GateRec 64
  vtr : Vtr
  ptc : Ptc
  pending : List Instr
  deriving DecidableEq, Repr

/-! ## Reset values -/

/-- No injection (R28). Beside the pattern NONE every field is 0 or absent: the model's choice (assumption log 29). -/
def Injection.idle : Injection := ⟨.none, 0, 0, 0, 0, 0, Option.none⟩

/-- The values a scan holds before the first valid one (R28). -/
def Scan.blank : Scan :=
  ⟨Option.none, Vector.replicate 12 ⟨0, false⟩, Vector.replicate 12 0, 0, 0⟩

/-- A closed window with nothing counted (R32). -/
def Window.quiet (iStart : Int) : Window := ⟨false, iStart, 0, 0, 0, false⟩

/-- An empty run. -/
def Run.zero : Run := ⟨0, 0, false⟩

/-- The protection record of R50, with H at `heat` and the mask count at `mask`. -/
def Protection.start (heat mask : Nat) : Protection :=
  ⟨⟨0, 0, 0, 0⟩, .zero, .quiet 0, .zero, heat, mask, Option.none, false⟩

/-- A breaker at rest in `st`: no sequence, no timer, no test in progress (R61, R77). -/
def Breaker.rest (st : BState) (judged : Option Judged) : Breaker where
  state := st
  cause := .hostOpen
  begun := Option.none
  inSequence := false
  attempts := 0
  limited := false
  follows := false
  automatic := false
  closeOut := false
  expired := false
  openTimer := Option.none
  closeTimer := Option.none
  deadTimer := Option.none
  readyWait := Option.none
  reclaim := Option.none
  test := .idle
  judged := judged

/-- A section right after a reset (R91), its fed flag given. -/
def SectionRec.start (fed : Bool) : SectionRec := ⟨false, 0, 0, 0, 0, fed, false, false⟩

/-- An ARMED gate with its contacts at the given accepted levels (R100). -/
def GateRec.armed (pos neg : Bool) : GateRec where
  posLevel := pos
  negLevel := neg
  posWait := Option.none
  negWait := Option.none
  state := .armed
  settling := false
  posSeen := false
  negSeen := false
  flag := .unknown
  engagedAt := 0
  missing := .none
  poleTimer := Option.none
  stuckTimer := Option.none
  stuck := false

/-- A proving record restarted at a zone time (R157). -/
def Proving.start (t : Time) : Proving := ⟨t, .fresh, .idle, .zero, Option.none, false, false, 0, 0⟩

/-- The record of an unfitted point (R9, R124): OUT_OF_SERVICE, every other field empty or clear. -/
def PointRec.unfitted : PointRec where
  state := .outOfService
  leg := .zero
  failure := Option.none
  confirmed := false
  queue := []
  reservations := []
  route := .auto
  proofDemand := false
  serviceOut := false
  aspect := .dark
  cadence := 0
  moveTimer := Option.none
  arrivalWait := Option.none
  detectionWait := Option.none
  proving := .start 0

/-- An empty vehicle account (R123). -/
def Vtr.empty : Vtr := ⟨Vector.replicate 48 Option.none, Vector.replicate 32 [], Vector.replicate 32 0⟩

/-- A rewritten retained area (R176): a restart lock on every section, nothing else. -/
def Retained.rewritten : Retained :=
  ⟨true, Vector.replicate 12 [0], Vector.replicate 12 Option.none, Vector.replicate 12 Option.none, Vector.replicate 12 0⟩

/-- All input lines inactive (assumption log 2). -/
def Pins.idle : Pins where
  aux := Vector.replicate 12 false
  ready := Vector.replicate 12 false
  positive := Vector.replicate 64 false
  negative := Vector.replicate 64 false
  currentFlag := Vector.replicate 64 false
  det0 := Vector.replicate 16 false
  det1 := Vector.replicate 16 false
  maint := false
  rate0 := false
  rate1 := false
  resetLine := false

/-- The scan port after a reset at zone time 0 (R28): the overdue wait runs to 2 ms. The valid run, which is not kept outside BLIND,
and the times of events that have not yet been hold 0 (assumption log 29). -/
def Scp.reset : Scp where
  rx := []
  last := .blank
  lastTime := 0
  overdueAt := 2
  heldRun := 0
  blind := false
  blindSince := 0
  validRun := 0
  injection := Vector.replicate 12 .idle
  latest := Option.none

/-- The host link after a reset (R188), with the RESET notice of R178 begun by the idle transmitter (R183). -/
def Lnk.reset (rate : Rate) (first : Notice) (rest : List Notice) : Lnk where
  rate := rate
  rx := []
  requests := []
  replySlot := Option.none
  notices := rest
  overflow := false
  eventEnabled := true
  infoEnabled := true
  watchSet := []
  watchPeriod := 0
  watchTimer := Option.none
  linkErrors := 0
  overruns := 0
  transmitting := some (.notice first false)
  restart := .none

/-- The machine right after reset: a POWER_ON reset (R178) of a part whose stored set has never been written and whose
retained area fails its check (R176), with every input line inactive (assumption logs 2 and 3). It starts on the factory
defaults in CONFIGURE, with a restart lock on every section; its RESET notice is in transmission. -/
def State.reset : State where
  now := 0
  powered := true
  pins := .idle
  lnk := .reset .baud57600 ⟨.reset .powerOn false false .configure 0, .event, 0⟩ []
  sst :=
    { working := .factory
      stored := .factory
      storedValid := false
      storedWorkingGen := 0
      storedTopologyGen := 0
      job := Option.none
      active := .factory
      workingGen := 0
      topologyGen := 0
      notedGen := 0
      mode := .configure
      cause := .powerOn
      retentionValid := false }
  ret := .rewritten
  scp := .reset
  fpu := Vector.replicate 12 (.start 150000000 0)
  bsq := ⟨Vector.replicate 12 (.rest .opened Option.none), false, false⟩
  sem := Vector.replicate 12 (.start false)
  gsc := Vector.replicate 64 (.armed false false)
  vtr := .empty
  ptc := ⟨[], Vector.replicate 16 .unfitted⟩
  pending := []

end Sys2Proof.Machine
end

