-- ==== Sys2Proof/Machine/Wire.lean ====
section
/-! DEFINITION. Bytes on the lines: byte order (R189), the check of scans and envelopes (R15, R180), and the assembly of scans
(R14), telegrams (R127) and envelopes (R180) from the bytes that arrive.

Each assembler keeps the bytes it has taken since its sync byte. A frame that fails its check is searched again from the byte
after its sync byte, which is the same as looking at the kept bytes from there. -/

namespace Sys2Proof.Machine

/-! ## Byte order -/

/-- A 16-bit value sent low byte first. -/
def word16 (lo hi : Byte) : BitVec 16 := hi ++ lo

/-- A 32-bit value sent low byte first. -/
def word32 (b0 b1 b2 b3 : Byte) : BitVec 32 := b3 ++ b2 ++ b1 ++ b0

/-- The byte at a place, 0 beyond the end. -/
def byteAt (l : List Byte) (i : Nat) : Byte := l.getD i 0

/-- The 16-bit value at a place, low byte first. -/
def wordAt (l : List Byte) (i : Nat) : BitVec 16 := word16 (byteAt l i) (byteAt l (i + 1))

/-- The 16-bit value at a place, high byte first: how a check is sent. -/
def checkAt (l : List Byte) (i : Nat) : BitVec 16 := word16 (byteAt l (i + 1)) (byteAt l i)

/-! ## The check (R15) -/

/-- One bit of the division by x^16 + x^12 + x^5 + 1. -/
def crcBit (c : BitVec 16) : BitVec 16 := if c.msb then (c <<< 1) ^^^ 0x1021#16 else c <<< 1

/-- One byte, most significant bit first. -/
def crcByte (c : BitVec 16) (b : Byte) : BitVec 16 :=
  crcBit (crcBit (crcBit (crcBit (crcBit (crcBit (crcBit (crcBit (c ^^^ (b.setWidth 16 <<< 8)))))))))

/-- The CRC of R15: initial value 0xFFFF, no reflection, no final exclusive-or. -/
def crc16 (l : List Byte) : BitVec 16 := l.foldl crcByte 0xFFFF#16

/-! ## Scans (R14, R15) -/

/-- A complete scan is valid: its check agrees with the 53 bytes from the sequence byte on. -/
def scanGood (frame : List Byte) : Bool := crc16 ((frame.drop 1).take 53) == checkAt frame 54

/-- The valid scans among the bytes kept, and the partly assembled scan that remains; `fuel` bounds the frames looked at. -/
def scanFrames : Nat → List Byte → List (List Byte) × List Byte
  | 0, buf => ([], buf)
  | fuel + 1, buf =>
    let b := buf.dropWhile (· ≠ 0x5A#8)
    if b.length < 56 then ([], b)
    else if scanGood (b.take 56) then
      let (frames, left) := scanFrames fuel (b.drop 56)
      (b.take 56 :: frames, left)
    else scanFrames fuel (b.drop 1)

/-! ## Telegrams (R127) -/

/-- A telegram: reader, fleet number, requested leg. -/
structure Telegram where
  reader : PointNo
  fleet : Nat
  leg : Option Leg
  deriving DecidableEq, Repr

/-- The six bytes of a telegram sum to 0. -/
def telegramSum (frame : List Byte) : Bool := frame.foldl (· + ·) 0#8 == 0#8

/-- A telegram whose sum is good, when its fields are good too. -/
def telegramOf (frame : List Byte) : Option Telegram :=
  let reader := (byteAt frame 1).toNat
  let fleet := (wordAt frame 2).toNat
  if h : reader < 16 then
    if 1 ≤ fleet ∧ fleet ≤ 9999 then
      match (byteAt frame 4).toNat with
      | 0 => some ⟨⟨reader, h⟩, fleet, some .zero⟩
      | 1 => some ⟨⟨reader, h⟩, fleet, some .one⟩
      | 2 => some ⟨⟨reader, h⟩, fleet, none⟩
      | _ => none
    else none
  else none

/-- The good telegrams among the bytes kept, and the partial telegram that remains. -/
def telegramFrames : Nat → List Byte → List Telegram × List Byte
  | 0, buf => ([], buf)
  | fuel + 1, buf =>
    let b := buf.dropWhile (· ≠ 0x54#8)
    if b.length < 6 then ([], b)
    else if telegramSum (b.take 6) then
      let (frames, left) := telegramFrames fuel (b.drop 6)
      ((telegramOf (b.take 6)).toList ++ frames, left)
    else telegramFrames fuel (b.drop 1)

/-! ## Envelopes (R180) -/

/-- What the bytes kept hold: good payloads in order, the number of bad envelopes, the partial envelope that remains. -/
structure Envelopes where
  payloads : List (List Byte)
  bad : Nat
  left : List Byte
  deriving DecidableEq, Repr

/-- Look for envelopes: LEN 1–240, then LEN payload bytes and a CRC over LEN and payload, high byte first. -/
def envelopeFrames : Nat → List Byte → Envelopes
  | 0, buf => ⟨[], 0, buf⟩
  | fuel + 1, buf =>
    let b := buf.dropWhile (· ≠ 0xC3#8)
    match b with
    | _ :: len :: body =>
      let n := len.toNat
      if n = 0 ∨ 240 < n then
        let r := envelopeFrames fuel (len :: body)
        { r with bad := r.bad + 1 }
      else if body.length < n + 2 then ⟨[], 0, b⟩
      else if crc16 (len :: body.take n) == checkAt body n then
        let r := envelopeFrames fuel (body.drop (n + 2))
        { r with payloads := body.take n :: r.payloads }
      else
        let r := envelopeFrames fuel (len :: body)
        { r with bad := r.bad + 1 }
    | _ => ⟨[], 0, b⟩

/-- The envelope of a payload (R180). -/
def envelope (payload : List Byte) : List Byte :=
  let len : Byte := BitVec.ofNat 8 payload.length
  let c := crc16 (len :: payload)
  0xC3#8 :: len :: payload ++ [(c >>> 8).setWidth 8, c.setWidth 8]

end Sys2Proof.Machine
end

