-- ==== Sys2Proof/Decode.lean ====
section
/-! DEFINITION. Requests as the host link spells them (R181, R182, R189): the command a queued payload stands for. The command
table gives no row any bits, so no word of it spells a command. -/

namespace Sys2Proof

open Sys2Proof.Machine

/-- No argument: the payload is kind and tag alone. -/
def noArgs (args : List Byte) : Args Unit := if args.length = 0 then some () else none

/-- One byte of argument. -/
def oneByte (args : List Byte) : Args Byte := if args.length = 1 then some (byteAt args 0) else none

/-- A 16-bit argument. -/
def oneWord (args : List Byte) : Args (BitVec 16) := if args.length = 2 then some (wordAt args 0) else none

/-- Arguments of LOCK_ADD and LOCK_REMOVE. -/
def lockArgs (args : List Byte) : Args LockArgs := if args.length = 2 then some ⟨byteAt args 0, byteAt args 1⟩ else none

/-- Arguments of POINT_ROUTE and POINT_SERVICE. -/
def pointArgs (args : List Byte) : Args PointArgs := if args.length = 2 then some ⟨byteAt args 0, byteAt args 1⟩ else none

/-- Arguments of READ_SETTINGS. -/
def readSettingsArgs (args : List Byte) : Args ReadSettingsArgs :=
  if args.length = 3 then some ⟨byteAt args 0, byteAt args 1, byteAt args 2⟩ else none

/-- The field entries of WRITE_SETTINGS: five bytes each. -/
def fieldEntries : List Byte → Option (List FieldEntry)
  | [] => some []
  | f :: a :: b :: c :: d :: rest => (fieldEntries rest).map fun l => ⟨f, word32 a b c d⟩ :: l
  | _ => none

/-- Arguments of WRITE_SETTINGS. -/
def writeSettingsArgs : List Byte → Args WriteSettingsArgs
  | kind :: index :: rest => (fieldEntries rest).map fun l => ⟨kind, index, l⟩
  | _ => none

/-- Arguments of SET_FLOOR. -/
def setFloorArgs (args : List Byte) : Args SetFloorArgs := if args.length = 3 then some ⟨wordAt args 0, byteAt args 2⟩ else none

/-- Arguments of VEHICLE_PLACE. -/
def placeArgs (args : List Byte) : Args PlaceArgs :=
  if args.length = 4 then some ⟨byteAt args 0, wordAt args 1, byteAt args 3⟩ else none

/-- Arguments of VEHICLE_REMOVE. -/
def removeArgs (args : List Byte) : Args RemoveArgs := if args.length = 2 then some ⟨byteAt args 0, byteAt args 1⟩ else none

/-- Arguments of INJECT. -/
def injectArgs (args : List Byte) : Args InjectArgs :=
  if args.length = 10 then some ⟨byteAt args 0, byteAt args 1, wordAt args 2, wordAt args 4, wordAt args 6, wordAt args 8⟩
  else none

/-- Arguments of WATCH. -/
def watchArgs (args : List Byte) : Args WatchArgs := if args.length = 4 then some ⟨wordAt args 0, wordAt args 2⟩ else none

/-- The command a request of a kind and a tag stands for, by the codes of R189; `maint` is the level of the MAINT strap. -/
def commandOf (maint : Bool) (kind tag : Byte) (args : List Byte) : Instr :=
  match kind.toNat with
  | 0x01 => .identify tag (noArgs args) maint
  | 0x02 => .status tag (noArgs args)
  | 0x03 => .readFeeder tag (oneByte args)
  | 0x04 => .readTripRecord tag (oneByte args)
  | 0x05 => .clearTripRecord tag (oneByte args)
  | 0x06 => .readSection tag (oneByte args)
  | 0x07 => .readSegment tag (oneByte args)
  | 0x08 => .readPoint tag (oneByte args)
  | 0x09 => .readVehicle tag (oneByte args)
  | 0x0A => .findVehicle tag (oneWord args)
  | 0x0B => .readSettings tag (readSettingsArgs args)
  | 0x0C => .writeSettings tag (writeSettingsArgs args)
  | 0x0D => .storeSettings tag (noArgs args)
  | 0x0E => .setFloor tag (setFloorArgs args) maint
  | 0x0F => .setMode tag (oneByte args)
  | 0x10 => .feederClose tag (oneByte args)
  | 0x11 => .feederOpen tag (oneByte args)
  | 0x12 => .feederReset tag (oneByte args)
  | 0x13 => .incomerReset tag (oneByte args)
  | 0x14 => .lockAdd tag (lockArgs args)
  | 0x15 => .lockRemove tag (lockArgs args)
  | 0x16 => .pointRoute tag (pointArgs args)
  | 0x17 => .pointService tag (pointArgs args)
  | 0x18 => .pointExercise tag (oneByte args)
  | 0x19 => .pointReset tag (oneByte args)
  | 0x1A => .zoneClear tag (oneByte args)
  | 0x1B => .vehiclePlace tag (placeArgs args)
  | 0x1C => .vehicleRemove tag (removeArgs args)
  | 0x1D => .vehicleClear tag (oneByte args)
  | 0x1E => .inject tag (injectArgs args)
  | 0x1F => .watch tag (watchArgs args)
  | 0x20 => .noticeClasses tag (oneByte args)
  | 0x21 => .restart tag (noArgs args)
  | _ => .requestBadKind kind tag

/-- The command a request payload stands for; `none` for a payload that holds no tag (R181). -/
def requestOf (maint : Bool) : List Byte → Option Instr
  | kind :: tag :: args => some (commandOf maint kind tag args)
  | _ => none

/-- The command a word of the command table spells. The table gives no row any bits, so none is spelt (assumption log 9). -/
def decodeTableWord (_nbits _w : Nat) : Option Instr := none

end Sys2Proof
end

