-- ==== Sys2Proof/Machine/Clock.lean ====
section
/-! DEFINITION. Zone time: ages, expiries and what remains of a timer (00_scope section 6). A running timer is the zone
time at which it expires, fixed when it starts. -/

namespace Sys2Proof.Machine

/-- The zone time `ms` after `t`, wrapping (R178). -/
def later (t : Time) (ms : Nat) : Time := t + BitVec.ofNat 32 ms

/-- The age of `t`: a difference of zone time modulo 2^32. -/
def age (now t : Time) : Nat := (now - t).toNat

/-- The zone time `e` has come. No timer of the part runs for 2^31 ms or more, so a larger difference lies ahead. -/
def reached (now e : Time) : Bool := decide (age now e < 2147483648)

/-- A timer is running and has run out. -/
def isDue (now : Time) (t : Option Time) : Bool :=
  match t with
  | none => false
  | some e => reached now e

/-- The remaining time of an expiry in ms. -/
def timeLeft (now e : Time) : Nat := if reached now e then 0 else age e now

end Sys2Proof.Machine
end

