-- ==== Sys2Proof/Machine/Topo.lean ====
section
/-! DEFINITION. What the part derives from a topology (R6, R8) and the validity checks (R10). -/

namespace Sys2Proof.Machine

/-- The topology fields of a set of settings (R2, R3). -/
def Settings.topology (w : Settings) : Topology where
  feeders := Vector.ofFn fun f : FeederNo => w.feeders[f].topo
  lists := Vector.ofFn fun c : SectionNo => w.sections[c].feeders
  segments := w.segments
  gates := Vector.ofFn fun g : GateNo => w.gates[g].topo
  points := Vector.ofFn fun p : PointNo => w.points[p].topo

namespace Topology

/-! ### Feeders and sections (R7, R8) -/

/-- The enabled feeders of a section, in list order (R8). -/
def enabledFeeders (T : Topology) (c : SectionNo) : List FeederNo :=
  T.lists[c].filter fun f => T.feeders[f].enabled

/-- The section of an enabled feeder. -/
def feederSection (T : Topology) (f : FeederNo) : Option SectionNo :=
  if T.feeders[f].enabled then T.feeders[f].sec else none

/-- The partner of a feeder: the other enabled feeder of its section (R8). -/
def partner (T : Topology) (f : FeederNo) : Option FeederNo :=
  match T.feederSection f with
  | none => none
  | some c => (T.enabledFeeders c).find? fun g => g ≠ f

/-- The lead of the section of which `f` is the follower (R8); `none` when `f` is no follower. -/
def leadOf (T : Topology) (f : FeederNo) : Option FeederNo :=
  match T.feederSection f with
  | none => none
  | some c =>
    match T.enabledFeeders c with
    | a :: b :: _ => if b = f then some a else none
    | _ => none

/-- The segments of a section, ascending (R8). -/
def segmentsOf (T : Topology) (c : SectionNo) : List SegmentNo :=
  (List.finRange 32).filter fun g => T.segments[g] = c

/-! ### Gates (R4, R6) -/

/-- The section of one side of a gate; OFF lies in none (R4). -/
def sideSection (T : Topology) (side : Option SegmentNo) : Option SectionNo :=
  side.map fun g => T.segments[g]

/-- The section of a gate's from-segment. -/
def srcSection (T : Topology) (g : GateNo) : Option SectionNo := T.sideSection T.gates[g].src

/-- The section of a gate's to-segment. -/
def dstSection (T : Topology) (g : GateNo) : Option SectionNo := T.sideSection T.gates[g].dst

/-- A gate is used when its role is not UNUSED (R93). -/
def isUsed (T : Topology) (g : GateNo) : Bool := T.gates[g].role ≠ .unused

/-- Break gates (R6): PLAIN, EXIT0 or EXIT1 with an OFF side or sides in different sections. -/
def isBreak (T : Topology) (g : GateNo) : Bool :=
  match T.gates[g].role with
  | .plain | .exit0 | .exit1 =>
    T.gates[g].src.isNone || T.gates[g].dst.isNone || decide (T.srcSection g ≠ T.dstSection g)
  | .entry | .unused => false

/-- The break gates of a section, ascending (R6, R8). -/
def breakGates (T : Topology) (c : SectionNo) : List GateNo :=
  (List.finRange 64).filter fun g => T.isBreak g && (T.srcSection g == some c || T.dstSection g == some c)

/-- The other side of a break gate of `c` (R6): the section of the opposite segment, `none` for OFF. -/
def otherSide (T : Topology) (g : GateNo) (c : SectionNo) : Option SectionNo :=
  if T.srcSection g = some c then T.dstSection g else T.srcSection g

/-! ### Points (R9) -/

/-- The fitted point whose approach a segment is. -/
def pointOfApproach (T : Topology) (g : SegmentNo) : Option PointNo :=
  (List.finRange 16).find? fun p => T.points[p].fitted && T.points[p].approach == g

/-- The segment of a leg. -/
def legSegment (T : Topology) (p : PointNo) : Leg → SegmentNo
  | .zero => T.points[p].leg0
  | .one => T.points[p].leg1

/-- The fitted point whose ENTRY gate this is. -/
def entryPoint (T : Topology) (g : GateNo) : Option PointNo :=
  if T.gates[g].role = .entry then
    (List.finRange 16).find? fun p => T.points[p].fitted && T.points[p].entry == g
  else none

/-- The fitted point and leg whose exit gate this is. -/
def exitPoint (T : Topology) (g : GateNo) : Option (PointNo × Leg) :=
  match T.gates[g].role with
  | .exit0 => ((List.finRange 16).find? fun p => T.points[p].fitted && T.points[p].exit0 == g).map fun p => (p, .zero)
  | .exit1 => ((List.finRange 16).find? fun p => T.points[p].fitted && T.points[p].exit1 == g).map fun p => (p, .one)
  | .plain | .entry | .unused => none

/-! ### The validity checks (R10) -/

/-- Checks 1 and 2, of an enabled feeder. -/
def checkFeeder (T : Topology) (f : FeederNo) : Option Nat :=
  if T.feeders[f].enabled then
    match T.feeders[f].sec with
    | none => some 1
    | some c => if f ∈ T.lists[c] then none else some 2
  else none

/-- Check 3, of a section. -/
def checkSection (T : Topology) (c : SectionNo) : Option Nat :=
  if T.lists[c].all fun f => T.feeders[f].sec == some c then none else some 3

/-- The fitted points with a number below `p`. -/
def fittedBelow (T : Topology) (p : PointNo) : List PointNo :=
  (List.finRange 16).filter fun q => decide (q < p) && T.points[q].fitted

/-- The gates a point names. -/
def PointTopo.gates (t : PointTopo) : List GateNo := [t.entry, t.exit0, t.exit1]

/-- Checks 4 to 8, of a fitted point. -/
def checkPoint (T : Topology) (p : PointNo) : Option Nat :=
  let t := T.points[p]
  if !t.fitted then none
  else if t.leg0 = t.leg1 ∨ t.leg0 = t.approach ∨ t.leg1 = t.approach then some 4
  else if (T.fittedBelow p).any fun q => T.points[q].approach == t.approach then some 5
  else if T.gates[t.entry] ≠ ⟨.entry, some t.approach, some t.approach⟩ then some 6
  else if T.gates[t.exit0] ≠ ⟨.exit0, some t.approach, some t.leg0⟩
      ∨ T.gates[t.exit1] ≠ ⟨.exit1, some t.approach, some t.leg1⟩ then some 7
  else if (T.fittedBelow p).any fun q => (PointTopo.gates T.points[q]).any fun g => (PointTopo.gates t).contains g then some 8
  else none

/-- Checks 9 to 12, of a used gate. -/
def checkGate (T : Topology) (g : GateNo) : Option Nat :=
  let t := T.gates[g]
  match t.role with
  | .unused => none
  | .entry => if (T.entryPoint g).isSome then none else some 10
  | .exit0 | .exit1 => if (T.exitPoint g).isSome then none else some 10
  | .plain =>
    if t.src = t.dst then some 9
    else match t.src with
      | none => none
      | some seg =>
        if (T.pointOfApproach seg).isSome then some 11
        else if (List.finRange 64).any fun h => decide (h < g) && T.gates[h].role == .plain && T.gates[h].src == some seg
        then some 12
        else none

/-- The first failure of the checks, in the order of R10: record kind (as numbered in R189), index and check number. -/
def firstFailure (T : Topology) : Option (Nat × Nat × Nat) :=
  ((List.finRange 12).findSome? fun f => (T.checkFeeder f).map fun n => (1, f.val, n)).or
    (((List.finRange 12).findSome? fun c => (T.checkSection c).map fun n => (2, c.val, n)).or
      (((List.finRange 16).findSome? fun p => (T.checkPoint p).map fun n => (5, p.val, n)).or
        ((List.finRange 64).findSome? fun g => (T.checkGate g).map fun n => (4, g.val, n))))

end Topology

end Sys2Proof.Machine
end

