-- ==== Sys2Proof/Machine/Ops.lean ====
section
/-! DEFINITION. The named accesses to the state, the notice queue (R186, R187) and the transmitter (R183). -/

namespace Sys2Proof.Machine

/-! ## Reading and writing one record of a block -/

namespace State

/-- The active topology, from which every block takes its topology questions (R3). -/
def topo (s : State) : Topology := s.sst.active

/-- A feeder's working settings. -/
def feederSet (s : State) (f : FeederNo) : FeederSet := s.sst.working.feeders[f]

/-- A section's working settings. -/
def sectionSet (s : State) (c : SectionNo) : SectionSet := s.sst.working.sections[c]

/-- A gate's working settings. -/
def gateSet (s : State) (g : GateNo) : GateSet := s.sst.working.gates[g]

/-- A point's working settings. -/
def pointSet (s : State) (p : PointNo) : PointSet := s.sst.working.points[p]

/-- A feeder's breaker record. -/
def breaker (s : State) (f : FeederNo) : Breaker := s.bsq.breakers[f]

/-- Write a feeder's breaker record, nothing else. -/
def setBreaker (s : State) (f : FeederNo) (b : Breaker) : State :=
  { s with bsq := { s.bsq with breakers := s.bsq.breakers.set f b } }

/-- A feeder's protection record. -/
def protection (s : State) (f : FeederNo) : Protection := s.fpu[f]

/-- Write a feeder's protection record. -/
def setProtection (s : State) (f : FeederNo) (r : Protection) : State := { s with fpu := s.fpu.set f r }

/-- A section's record. -/
def sec (s : State) (c : SectionNo) : SectionRec := s.sem[c]

/-- Write a section's record. -/
def setSec (s : State) (c : SectionNo) (r : SectionRec) : State := { s with sem := s.sem.set c r }

/-- A gate's record. -/
def gate (s : State) (g : GateNo) : GateRec := s.gsc[g]

/-- Write a gate's record. -/
def setGate (s : State) (g : GateNo) (r : GateRec) : State := { s with gsc := s.gsc.set g r }

/-- A point's record. -/
def point (s : State) (p : PointNo) : PointRec := s.ptc.points[p]

/-- Write a point's record. -/
def setPoint (s : State) (p : PointNo) (r : PointRec) : State :=
  { s with ptc := { s.ptc with points := s.ptc.points.set p r } }

/-- The vehicle record in a slot, `none` when the slot is free. -/
def vehicle (s : State) (n : SlotNo) : Option Vehicle := s.vtr.slots[n]

/-- Write a slot. -/
def setVehicle (s : State) (n : SlotNo) (v : Option Vehicle) : State :=
  { s with vtr := { s.vtr with slots := s.vtr.slots.set n v } }

/-- A segment's queue, head first. -/
def queue (s : State) (g : SegmentNo) : List SlotNo := s.vtr.queues[g]

/-- Write a segment's queue. -/
def setQueue (s : State) (g : SegmentNo) (q : List SlotNo) : State :=
  { s with vtr := { s.vtr with queues := s.vtr.queues.set g q } }

/-- A segment's untracked count. -/
def untracked (s : State) (g : SegmentNo) : Nat := s.vtr.untracked[g]

/-- Write a segment's untracked count. -/
def setUntracked (s : State) (g : SegmentNo) (n : Nat) : State :=
  { s with vtr := { s.vtr with untracked := s.vtr.untracked.set g n } }

/-- A feeder's injection record. -/
def injection (s : State) (f : FeederNo) : Injection := s.scp.injection[f]

/-- Write a feeder's injection record. -/
def setInjection (s : State) (f : FeederNo) (j : Injection) : State :=
  { s with scp := { s.scp with injection := s.scp.injection.set f j } }

/-- A section's lock list, which lives in the retained area (R87, R175). -/
def locks (s : State) (c : SectionNo) : List Nat := s.ret.locks[c]

/-- Write a section's lock list; the retained area's check is renewed with it (R175). -/
def setLocks (s : State) (c : SectionNo) (l : List Nat) : State :=
  { s with ret := { s.ret with locks := s.ret.locks.set c l } }

/-- A feeder's retained lockout (R61). -/
def lockout (s : State) (f : FeederNo) : Option LockoutCause := s.ret.lockouts[f]

/-- Write a feeder's retained lockout. -/
def setLockout (s : State) (f : FeederNo) (c : Option LockoutCause) : State :=
  { s with ret := { s.ret with lockouts := s.ret.lockouts.set f c } }

/-- A feeder's trip record (R75). -/
def trip (s : State) (f : FeederNo) : Option TripRecord := s.ret.trips[f]

/-- A feeder's trips-since-clear count (R75). -/
def tripCount (s : State) (f : FeederNo) : Nat := s.ret.tripCounts[f]

/-- Write a feeder's trip record and count. -/
def setTrip (s : State) (f : FeederNo) (r : Option TripRecord) (n : Nat) : State :=
  { s with ret := { s.ret with trips := s.ret.trips.set f r, tripCounts := s.ret.tripCounts.set f n } }

/-- A feeder's AUX input: `true` is closed (R52). -/
def aux (s : State) (f : FeederNo) : Bool := s.pins.aux[f]

/-- A feeder's READY input: `true` is present (R52). -/
def ready (s : State) (f : FeederNo) : Bool := s.pins.ready[f]

end State

/-! ## Notices (R186, R187) -/

/-- The class of each notice (12 section 12.5). -/
def noticeClass : NoticeBody → NoticeClass
  | .trip _ _ _ | .lockout _ _ _ | .breakerFail _ _ _ | .backfeedEntered _ _ _ _ _ _ | .backfeedCleared _ _ _
  | .supplyLostEntered _ _ _ _ | .supplyLostCleared _ | .pointFailed _ _ _ _ _ | .pointLapsed _ _ _ _ _
  | .zoneOverfull _ _ _ _ | .trackingMoved _ _ _ _ _ _ | .trackingRenamed _ _ _ _ _ | .blindEntered _ _ | .blindLeft _ _
  | .gateStuck _ _ _ _ _ _ _ _ _ | .gateCleared _ _ | .faultedEntered _ _ _ _ _ _ | .faultedCleared _ _ _ _ => .alarm
  | .reset _ _ _ _ _ | .mode _ _ _ | .storeDone _ _ _ _ | .testTrip _ _ _ _ _ _ _ _ | .reclosed _ _ | .testFail _ _ _
  | .uncommanded _ _ | .sectionState _ _ _ _ _ _ | .orderConflict _ _ _ _ | .appeared _ _ _ _ _ _
  | .untracked _ _ _ _ _ _ | .entryMissed _ _ _ _ _ | .vehicleFault _ _ _ _ _ _ _ _ | .strayPoleFault _ _ _ => .event
  | .passage _ _ _ _ _ _ _ _ _ _ | .measure _ _ _ | .pointSet _ _ _ _ => .info

/-- The rank of a class: ALARM above EVENT above INFO. -/
def NoticeClass.rank : NoticeClass → Nat
  | .alarm => 2
  | .event => 1
  | .info => 0

/-- Whether a class is enabled (R186): ALARM always. -/
def Lnk.enabled (l : Lnk) : NoticeClass → Bool
  | .alarm => true
  | .event => l.eventEnabled
  | .info => l.infoEnabled

/-- The lowest rank among queued notices, `3` for an empty queue. -/
def lowestRank (q : List Notice) : Nat := q.foldl (fun m n => min m n.cls.rank) 3

/-- The queue without its oldest notice of the given rank. -/
def dropOldest (rank : Nat) (q : List Notice) : List Notice := q.eraseP fun n => n.cls.rank == rank

/-- Offer a notice to the notice queue (R187): appended while there is room; otherwise the new notice, or the oldest of the
lowest class present, is dropped and the overflow mark is set. -/
def Lnk.offer (l : Lnk) (n : Notice) : Lnk :=
  if l.notices.length < 32 then { l with notices := l.notices ++ [n] }
  else if n.cls.rank ≤ lowestRank l.notices then { l with overflow := true }
  else { l with notices := dropOldest (lowestRank l.notices) l.notices ++ [n], overflow := true }

/-- Raise a notice now (R186): a disabled class leaves no trace. -/
def State.raise (s : State) (body : NoticeBody) : State :=
  let n : Notice := ⟨body, noticeClass body, s.now⟩
  if s.lnk.enabled n.cls then { s with lnk := s.lnk.offer n } else s

/-! ## The transmitter (R183) -/

/-- An idle transmitter begins the reply in the slot, or else the oldest queued notice, which takes the overflow mark with
it; while a reset is due (R177) it begins nothing. -/
def Lnk.begin (l : Lnk) : Lnk :=
  if l.transmitting.isSome || l.restart == .due then l
  else match l.replySlot with
    | some r => { l with transmitting := some (.reply r) }
    | none =>
      match l.notices with
      | [] => l
      | n :: rest => { l with notices := rest, transmitting := some (.notice n l.overflow), overflow := false }

/-- Every event ends with the transmitter looking for something to send (R183; assumption log 5). -/
def State.transmit (s : State) : State := { s with lnk := s.lnk.begin }

/-! ## Supply and restart -/

/-- The reset of a RESTART is taken: its reply has been sent in full, and RESET_LINE, which gives its own reset in place of it, is
not asserted (R177). -/
def State.restartsNow (s : State) : Bool := s.lnk.restart == .due && !s.pins.resetLine

/-- A part without supply takes no event (assumption log 6). -/
def State.ifPowered (s : State) (act : State → State) : State := if s.powered then act s else s

/-- An event: the act of a powered part, after which the transmitter looks for something to send. -/
def State.event (s : State) (act : State → State) : State := s.ifPowered fun s => (act s).transmit

end Sys2Proof.Machine
end

