-- ==== Sys2Proof/Machine/Tracker.lean ====
section
/-! DEFINITION. The shared operations of the Vehicle Tracker: fault events (R159, R160), the queues and their want of room
(R105, R107, R113), completions (R111, R112, R114), the vehicle at an entry and its reconciliation with a tag (R115–R119)
and the attribution of a trip (R164, R165). -/

namespace Sys2Proof.Machine

/-! ## Fault events -/

/-- The points of a fault event (R158). -/
def FaultEvent.points : FaultEvent → Nat
  | .suspect _ => 4
  | .bridging _ => 4
  | .poleFault _ _ => 2
  | .wrongLeg _ _ => 2
  | .overdue _ _ => 1
  | .doubtful => 0

/-- The flags after a fault event has set its own (R158, R159). -/
def FaultEvent.mark (e : FaultEvent) (fl : FaultFlags) : FaultFlags :=
  match e with
  | .suspect _ => fl
  | .bridging _ => { fl with bridging := true }
  | .poleFault _ _ => { fl with poleFault := true }
  | .wrongLeg _ _ => { fl with wrongLeg := true }
  | .overdue _ _ => { fl with overdue := true }
  | .doubtful => { fl with doubtful := true }

/-- A record after a fault event, before FAULTED is judged: steps 1 to 3 of R159. -/
def Vehicle.faulted (v : Vehicle) (e : FaultEvent) (decayAt : Time) : Vehicle :=
  { v with
    suspicion := min 15 (v.suspicion + e.points)
    flags := e.mark v.flags
    decay := if e.points = 0 then v.decay else some decayAt }

/-- FAULTED is to be set (R160): suspicion at 8 or above with the flag clear. -/
def Vehicle.turnsFaulted (v : Vehicle) : Bool := decide (8 ≤ v.suspicion) && !v.flags.faulted

namespace State

/-- Apply a fault event to the record in a slot (R159, R160); with the slot free nothing happens. -/
def applyFault (s : State) (n : SlotNo) (e : FaultEvent) : State :=
  match s.vehicle n with
  | none => s
  | some v =>
    let v1 := v.faulted e (later s.now s.sst.working.zone.tDecay)
    let s1 := (s.setVehicle n (some v1)).raise
      (.vehicleFault n v.fleet v.segment e e.points v1.suspicion v1.flags s.now)
    if v1.turnsFaulted then
      let v2 := { v1 with flags := { v1.flags with faulted := true } }
      (s1.setVehicle n (some v2)).raise (.faultedEntered n v.fleet v.segment v2.suspicion v2.flags s.now)
    else s1

/-- Change the record in a slot; a free slot stays free. -/
def modVehicle (s : State) (n : SlotNo) (f : Vehicle → Vehicle) : State :=
  s.setVehicle n ((s.vehicle n).map f)

/-- A slot with its record's fleet number. -/
def candidate (s : State) (n : SlotNo) : Candidate := ⟨n, (s.vehicle n).bind (·.fleet)⟩

/-! ## Slots, gates held and queues -/

/-- The lowest-numbered free slot (R103). -/
def freeSlot (s : State) : Option SlotNo := (List.finRange 48).find? fun n => (s.vehicle n).isNone

/-- The record that holds a gate as its engaged gate (R108). -/
def holder (s : State) (g : GateNo) : Option SlotNo :=
  (List.finRange 48).find? fun n => (s.vehicle n).any fun v => v.gate == some g

/-- The record that holds a fleet number (R104). -/
def holderOfFleet (s : State) (fleet : Nat) : Option SlotNo :=
  (List.finRange 48).find? fun n => (s.vehicle n).any fun v => v.fleet == some fleet

/-- A record that gives up a gate. -/
def Vehicle.release (g : GateNo) (v : Vehicle) : Vehicle := if v.gate = some g then { v with gate := none } else v

/-- Every record that holds the gate gives it up. -/
def releaseGate (s : State) (g : GateNo) : State :=
  { s with vtr := { s.vtr with slots := Vector.ofFn fun n : SlotNo => (s.vehicle n).map (Vehicle.release g) } }

/-- A slot takes a gate as its engaged gate, no other record keeping it (R108). -/
def takeGate (s : State) (n : SlotNo) (g : GateNo) : State :=
  (s.releaseGate g).modVehicle n fun v => { v with gate := some g, lastActivity := s.now }

/-- A record leaves a segment queue, those behind it moving up (R105). -/
def unqueue (s : State) (g : SegmentNo) (n : SlotNo) : State := s.setQueue g ((s.queue g).filter (· ≠ n))

/-- R107 and R132: the point whose approach the segment is loses the zone queue entry of a removed record. -/
def zoneForget (s : State) (g : SegmentNo) (n : SlotNo) : State :=
  match s.topo.pointOfApproach g with
  | none => s
  | some p => s.setPoint p { s.point p with queue := (s.point p).queue.filter (·.slot ≠ n) }

/-- A record in use is freed wherever it stands (R103, R107). -/
def freeVehicle (s : State) (n : SlotNo) : State :=
  match s.vehicle n with
  | none => s
  | some v => ((s.unqueue v.segment n).zoneForget v.segment n).setVehicle n none

/-- R113: want of room. The untracked count of the segment rises, saturating at 7, and UNTRACKED tells it. -/
def wantRoom (s : State) (g : SegmentNo) (why : NoRoom) (freed : Option Candidate) : State :=
  let c := s.untracked g
  (s.setUntracked g (min 7 (c + 1))).raise (.untracked g s.now why freed (min 7 (c + 1)) (decide (7 ≤ c)))

/-- A fresh record (R103). -/
def newVehicle (s : State) (fleet : Option Nat) (g : SegmentNo) (flag : CurrentFlag) : Vehicle where
  fleet := fleet
  segment := g
  gate := none
  entryTime := s.now
  lastActivity := s.now
  lastFlag := flag
  suspicion := 0
  flags := ⟨false, false, false, false, false, false⟩
  decay := none

/-- Create a record at a place of a queue (0 is the head), or count the vehicle untracked for want of room (R103, R113).
A full queue is reported before a full table. -/
def create (s : State) (g : SegmentNo) (place : Nat) (fleet : Option Nat) (flag : CurrentFlag) : Option SlotNo × State :=
  if 8 ≤ (s.queue g).length then (none, s.wantRoom g .queueFull none)
  else match s.freeSlot with
    | none => (none, s.wantRoom g .tableFull none)
    | some n =>
      (some n, (s.setVehicle n (some (s.newVehicle fleet g flag))).setQueue g ((s.queue g).insertIdx (min place (s.queue g).length) n))

/-- Claim one untracked vehicle of a segment. -/
def claimUntracked (s : State) (g : SegmentNo) : State := s.setUntracked g (s.untracked g - 1)

end State

/-! ## Completions -/

/-- What a completion did (R111–R114): the record moved, freed or created; the record moved or created; whether an untracked
count moved; the time the moving record spent in its segment. -/
structure Passed where
  vehicle : Option Candidate
  placed : Option Candidate
  untracked : Bool
  stay : Option Nat
  deriving DecidableEq, Repr

namespace State

/-- A completion finds its from-segment's queue empty (R112). -/
def completeUntracked (s : State) (g : GateNo) (src : SegmentNo) (dst : Option SegmentNo) (flag : CurrentFlag) :
    Passed × State :=
  if 0 < s.untracked src then
    let s1 := s.claimUntracked src
    match dst with
    | none => (⟨none, none, true, none⟩, s1)
    | some d => (⟨none, none, true, none⟩, s1.setUntracked d (min 7 (s1.untracked d + 1)))
  else match dst with
    | none => (⟨none, none, false, none⟩, s)
    | some d =>
      match s.create d 8 none flag with
      | (none, s1) => (⟨none, none, false, none⟩, s1)
      | (some n, s1) =>
        (⟨some (s1.candidate n), some (s1.candidate n), false, none⟩, s1.raise (.appeared g d n none none s.now))

/-- The head of the from-queue leaves it (R111), to the tail of the to-queue, out of the zone, or for want of room (R113). -/
def completeMove (s : State) (src : SegmentNo) (n : SlotNo) (rest : List SlotNo) (dst : Option SegmentNo)
    (flag : CurrentFlag) : Passed × State :=
  match s.vehicle n with
  | none => (⟨none, none, false, none⟩, s.setQueue src rest)
  | some v =>
    let who := s.candidate n
    let stay := some (age s.now v.entryTime)
    let s1 := s.setQueue src rest
    match dst with
    | none => (⟨some who, none, false, stay⟩, s1.setVehicle n none)
    | some d =>
      if 8 ≤ (s1.queue d).length then (⟨some who, none, false, stay⟩, (s1.setVehicle n none).wantRoom d .queueFull (some who))
      else
        let v1 := { v with segment := d, gate := none, entryTime := s.now, lastActivity := s.now, lastFlag := flag }
        (⟨some who, some who, false, stay⟩, (s1.setVehicle n (some v1)).setQueue d (s1.queue d ++ [n]))

/-- A completion of a PLAIN, EXIT0 or EXIT1 gate (R111–R114), the PASSAGE notice included. -/
def complete (s : State) (g : GateNo) (flag : CurrentFlag) (missing : Missing) (engagedAt : Time) : Passed × State :=
  let t := s.topo.gates[g]
  let s0 := s.releaseGate g
  let (done, s1) : Passed × State :=
    match t.src with
    | none =>
      match t.dst with
      | none => (⟨none, none, false, none⟩, s0)
      | some d =>
        match s0.create d 8 none flag with
        | (none, s1) => (⟨none, none, false, none⟩, s1)
        | (some n, s1) => (⟨some (s1.candidate n), some (s1.candidate n), false, none⟩, s1)
    | some src =>
      match s0.queue src with
      | [] => s0.completeUntracked g src t.dst flag
      | n :: rest => s0.completeMove src n rest t.dst flag
  (done, s1.raise (.passage g t.src t.dst done.vehicle done.untracked flag missing engagedAt s.now done.stay))

/-! ## The vehicle at an entry (R115) -/

/-- The record at position k + 1 of an approach, k being the entries of the point's zone queue (R109). -/
def expected (s : State) (p : PointNo) : Option SlotNo :=
  (s.queue s.topo.points[p].approach)[(s.point p).queue.length]?

/-- The answered record takes the ENTRY gate while that gate is engaged, any other record giving it up, and its last activity
is the report's (R115). -/
def answerEntry (s : State) (p : PointNo) (n : SlotNo) : State :=
  let g := s.topo.points[p].entry
  let s1 := if (s.gate g).state = .armed then s.releaseGate g else s.takeGate n g
  s1.modVehicle n fun v => { v with lastActivity := s.now }

/-- R115, no fleet number handed over and no record at the entry: one is claimed from the untracked count, or appears. -/
def entryUnseen (s : State) (p : PointNo) (flag : CurrentFlag) : Option SlotNo × State :=
  let a := s.topo.points[p].approach
  let claim := decide (0 < s.untracked a)
  let s1 := if claim then s.claimUntracked a else s
  match s1.create a 8 none flag with
  | (none, s2) => (none, s2)
  | (some n, s2) =>
    (some n, if claim then s2 else s2.raise (.appeared s.topo.points[p].entry a n none none s.now))

/-- A tag confirms a record: its DOUBTFUL flag is cleared (R162). -/
def confirm (s : State) (n : SlotNo) : State :=
  s.modVehicle n fun v => { v with flags := { v.flags with doubtful := false } }

/-- R116 case 3: an anonymous record at the entry takes the number, a former holder losing it. -/
def entryNamed (s : State) (p : PointNo) (e : SlotNo) (fleet : Nat) : State :=
  match s.holderOfFleet fleet with
  | none => (s.modVehicle e fun v => { v with fleet := some fleet }).confirm e
  | some n =>
    let s1 := s.modVehicle n fun v => { v with fleet := none }
    let s2 := (s1.modVehicle e fun v => { v with fleet := some fleet }).confirm e
    let s3 := s2.applyFault n .doubtful
    match s.vehicle n with
    | none => s3
    | some v => s3.raise (.trackingRenamed p e fleet n v.segment)

/-- R117: the records at positions k + 1 and k + 2 exchange places. ORDER_CONFLICT names the expected record, now behind, first
(assumption log 36). -/
def entrySwap (s : State) (p : PointNo) (e n : SlotNo) : State :=
  let a := s.topo.points[p].approach
  let k := (s.point p).queue.length
  let s1 := s.setQueue a (((s.queue a).set k n).set (k + 1) e)
  (s1.confirm n).raise (.orderConflict p (s.candidate e) (s.candidate n) s.now)

/-- R118: the tagged record, in use and elsewhere, is moved to the entry. TRACKING_ERROR names the expected record as displaced also
when there is no room and nothing moves back (assumption log 36). -/
def entryMove (s : State) (p : PointNo) (fleet : Nat) (n : SlotNo) (v : Vehicle) : Option SlotNo × State :=
  let a := s.topo.points[p].approach
  let oldPosition := (s.queue v.segment).idxOf n + 1
  let s1 := (s.unqueue v.segment n).zoneForget v.segment n
  let displaced := s1.expected p
  let k := (s1.point p).queue.length
  let room := decide ((s1.queue a).length < 8)
  let s2 :=
    if room then
      let s2 := (s1.setVehicle n (some { v with segment := a, gate := none, entryTime := s.now, lastActivity := s.now })).setQueue a
        ((s1.queue a).insertIdx (min k (s1.queue a).length) n)
      let s2 := s2.confirm n
      if displaced.isNone && decide (0 < s2.untracked a) then s2.claimUntracked a else s2
    else (s1.setVehicle n none).wantRoom a .queueFull (some (s.candidate n))
  let s3 := match displaced with
    | none => s2
    | some e => s2.applyFault e .doubtful
  (if room then some n else none,
    s3.raise (.trackingMoved p fleet n v.segment oldPosition (displaced.map s.candidate)))

/-- R119: no record holds the number, so one is created at the entry. -/
def entryCreate (s : State) (p : PointNo) (fleet : Nat) (flag : CurrentFlag) : Option SlotNo × State :=
  let a := s.topo.points[p].approach
  let k := (s.point p).queue.length
  let displaced := s.expected p
  let claim := displaced.isNone && decide (0 < s.untracked a)
  let s1 := if claim then s.claimUntracked a else s
  match s1.create a k (some fleet) flag with
  | (none, s2) => (none, s2)
  | (some n, s2) =>
    (some n, if claim then s2 else s2.raise (.appeared s.topo.points[p].entry a n (some fleet) displaced s.now))

/-- R116: reconcile a bound fleet number with the approach queue, by the first case that applies. -/
def reconcile (s : State) (p : PointNo) (fleet : Nat) (flag : CurrentFlag) : Option SlotNo × State :=
  let a := s.topo.points[p].approach
  let k := (s.point p).queue.length
  let fleetOf (n : SlotNo) : Option Nat := (s.vehicle n).bind (·.fleet)
  let elsewhere : Option SlotNo × State :=
    match s.holderOfFleet fleet with
    | some n =>
      match s.vehicle n with
      | some v => s.entryMove p fleet n v
      | none => s.entryCreate p fleet flag
    | none => s.entryCreate p fleet flag
  match s.expected p with
  | none => elsewhere
  | some e =>
    if fleetOf e = some fleet then (some e, s.confirm e)
    else match (s.queue a)[k + 1]? with
      | none => if fleetOf e = none then (some e, s.entryNamed p e fleet) else elsewhere
      | some n =>
        if fleetOf n = some fleet then (some n, s.entrySwap p e n)
        else if fleetOf e = none then (some e, s.entryNamed p e fleet)
        else elsewhere

/-- The vehicle at the entry of a point, answered at an entry report (R115–R119). `flag` is the flag the report carries, which
a record created here takes (R103; assumption log 19). -/
def vehicleAtEntry (s : State) (p : PointNo) (bound : Option Nat) (flag : CurrentFlag) : Option SlotNo × State :=
  let (answer, s1) : Option SlotNo × State :=
    match bound with
    | some fleet => s.reconcile p fleet flag
    | none =>
      match s.expected p with
      | some n => (some n, s)
      | none => s.entryUnseen p flag
  match answer with
  | none => (none, s1)
  | some n => (some n, s1.answerEntry p n)

/-! ## Attribution of a trip -/

/-- R164: the candidates of a trip of a section, in order. -/
def candidates (s : State) (c : SectionNo) : List SlotNo :=
  let standing := (s.topo.segmentsOf c).flatMap s.queue
  (s.topo.breakGates c).foldl
    (fun l g => match s.holder g with
      | none => l
      | some n => if n ∈ l then l else l ++ [n])
    standing

/-- The rank of an eligible candidate (R165), smaller first: age of its last activity, place in its queue, segment. -/
def suspectRank (s : State) (t : Time) (n : SlotNo) : Option (Nat × Nat × Nat) :=
  match s.vehicle n with
  | none => none
  | some v =>
    if age t v.lastActivity ≤ s.sst.working.zone.tAttrib
    then some (age t v.lastActivity, (s.queue v.segment).idxOf n, v.segment.val)
    else none

/-- Lexicographic order of suspect ranks. -/
def rankBefore (a b : Nat × Nat × Nat) : Bool :=
  decide (a.1 < b.1) || (a.1 == b.1 && (decide (a.2.1 < b.2.1) || (a.2.1 == b.2.1 && decide (a.2.2 < b.2.2))))

/-- R165: the eligible candidate with the latest last activity; `none` when no candidate is eligible. -/
def suspect (s : State) (t : Time) (l : List SlotNo) : Option SlotNo :=
  (l.foldl
    (fun best n => match s.suspectRank t n with
      | none => best
      | some r => match best with
        | none => some (n, r)
        | some (m, q) => if rankBefore r q then some (n, r) else some (m, q))
    (none : Option (SlotNo × (Nat × Nat × Nat)))).map (·.1)

end State

/-- The answer of an attribution (R165); empty for the causes that are not attributed (R164). -/
structure Attribution where
  candidates : List Candidate
  total : Nat
  suspect : Option SlotNo
  faultedPresent : Bool
  deriving DecidableEq, Repr

/-- The empty attribution (R54, R164). -/
def Attribution.empty : Attribution := ⟨[], 0, none, false⟩

/-- At most eight entries from the head of the list, a suspect from beyond taking the eighth place (R165). -/
def reported (l : List SlotNo) (suspect : Option SlotNo) : List SlotNo :=
  match suspect with
  | none => l.take 8
  | some n => if n ∈ l.take 8 then l.take 8 else l.take 7 ++ [n]

/-- R165: some record of a list carries FAULTED. -/
def State.faultedAmong (s : State) (l : List SlotNo) : Bool := l.any fun n => (s.vehicle n).any (·.flags.faulted)

/-- R165: attribute a trip of feeder `f`, section `c`, decided at `t`. -/
def State.attribute (s : State) (f : FeederNo) (c : SectionNo) (t : Time) : Attribution × State :=
  let l := s.candidates c
  let sus := s.suspect t l
  let s1 := match sus with
    | none => s
    | some n => s.applyFault n (.suspect f)
  (⟨(reported l sus).map s.candidate, l.length, sus, s1.faultedAmong l⟩, s1)

end Sys2Proof.Machine
end

