-- ==== Sys2Proof/Machine/Sections.lean ====
section
/-! DEFINITION. The shared operations of the Section Monitor: the fed flag (R81, R82), the conditions BACKFEED and SUPPLY_LOST
(R83–R85), barred legs (R86), and one section's part in a measurement (R79–R85). -/

namespace Sys2Proof.Machine

/-- A breaker has TEST asserted (R52, R64). -/
def Breaker.testing (b : Breaker) : Bool := b.test ≠ .idle

/-- A breaker state that explains a section's voltage (R83): CLOSING, OPENING or STUCK. -/
def BState.moving : BState → Bool
  | .closing | .opening | .stuck => true
  | .opened | .closed | .deadTime | .testing | .lockedOut => false

namespace State

/-- The section holds a non-empty lock list. -/
def locked (s : State) (c : SectionNo) : Bool := !(s.locks c).isEmpty

/-- A section is LIVE. -/
def isLive (s : State) (c : SectionNo) : Bool := (s.sec c).live

/-- A side of a gate is LIVE; OFF never is (R4). -/
def sideLive (s : State) (side : Option SectionNo) : Bool := side.any s.isLive

/-- A gate is engaged: ENGAGED or HELD, settling included (R93). -/
def engaged (s : State) (g : GateNo) : Bool := (s.gate g).state ≠ .armed

/-- R64: a section is under test while TEST is asserted on any of its feeders. -/
def underTest (s : State) (c : SectionNo) : Bool := (s.topo.enabledFeeders c).any fun f => (s.breaker f).testing

/-- R81: what the fed flag is to be: some enabled feeder of the section is CLOSED. -/
def fedNow (s : State) (c : SectionNo) : Bool := (s.topo.enabledFeeders c).any fun f => (s.breaker f).state == .closed

/-- The gates of a section that bridge it to a LIVE neighbour (R62 BRIDGE, R84). -/
def bridgingGates (s : State) (c : SectionNo) : List GateNo :=
  (s.topo.breakGates c).filter fun g => s.engaged g && s.sideLive (s.topo.otherSide g c)

/-- R86: a leg is barred while its section is DEAD or holds a lock. -/
def barred (s : State) (p : PointNo) (l : Leg) : Bool :=
  let c := s.topo.segments[s.topo.legSegment p l]
  !s.isLive c || s.locked c

/-! ## Conditions -/

/-- SECTION_STATE (R80, R88, R89, R91). Outside a measurement `time` is the zone time of the event (assumption log 31). -/
def raiseSectionState (s : State) (c : SectionNo) (time : Time) : State :=
  s.raise (.sectionState c (s.sec c).live (s.sec c).voltage (s.sec c).fed (s.locks c).length time)

/-- BACKFEED clears, if it is in force (R83, R84). -/
def clearBackfeed (s : State) (c : SectionNo) (fed : Bool) : State :=
  if (s.sec c).backfeed then (s.setSec c { s.sec c with backfeed := false }).raise (.backfeedCleared c s.now fed) else s

/-- SUPPLY_LOST clears, if it is in force (R85). -/
def clearSupplyLost (s : State) (c : SectionNo) (live : Bool) : State :=
  if (s.sec c).supplyLost then (s.setSec c { s.sec c with supplyLost := false }).raise (.supplyLostCleared live) else s

/-- R81, R82: the fed flag follows the breakers; its setting clears the dead and backfeed counts and both conditions, its
clearing clears SUPPLY_LOST. -/
def refreshFed (s : State) (c : SectionNo) : State :=
  let fed := s.fedNow c
  if fed = (s.sec c).fed then s
  else if fed then
    ((s.setSec c { s.sec c with fed := true, deadCount := 0, backfeedCount := 0 }).clearSupplyLost c false).clearBackfeed c true
  else (s.setSec c { s.sec c with fed := false }).clearSupplyLost c false

/-- R83: the backfeed count is set to 0 when the section comes under test or a feeder of it starts to move. -/
def zeroBackfeed (s : State) (c : SectionNo) : State := s.setSec c { s.sec c with backfeedCount := 0 }

/-- Put a feeder's breaker record and let the Section Monitor take the change (R81, R83). -/
def putBreaker (s : State) (f : FeederNo) (b : Breaker) : State :=
  let s1 := s.setBreaker f b
  match s1.topo.feederSection f with
  | none => s1
  | some c =>
    let s2 := if b.state.moving || b.testing then s1.zeroBackfeed c else s1
    s2.refreshFed c

/-! ## A measurement (R79–R85) -/

/-- The section voltage of a measurement: the highest line voltage of the enabled feeders (R79). -/
def sectionVoltage (fs : List FeederNo) (m : Measurement) : Nat := fs.foldl (fun v f => max v m.line[f]) 0

/-- The live and dead counts after a reading (R79). -/
def countReading (set : SectionSet) (v : Nat) (r : SectionRec) : SectionRec :=
  if set.uLive ≤ v then { r with voltage := v, liveCount := min 10 (r.liveCount + 1), deadCount := 0 }
  else if v ≤ set.uDead then { r with voltage := v, liveCount := 0, deadCount := min 10 (r.deadCount + 1) }
  else { r with voltage := v, liveCount := 0, deadCount := 0 }

/-- R80: the energy state after the counts have moved, with its notice and the conditions its change clears (R83, R85). -/
def judgeEnergy (s : State) (c : SectionNo) (time : Time) : State :=
  let r := s.sec c
  if !r.live && r.liveCount == 10 then
    ((s.setSec c { r with live := true }).raiseSectionState c time).clearSupplyLost c true
  else if r.live && r.deadCount == 10 then
    ((s.setSec c { r with live := false }).raiseSectionState c time).clearBackfeed c false
  else s

/-- R84, R166: entry to BACKFEED; BRIDGING is attributed at each bridging gate in ascending order, then the notice is raised. -/
def enterBackfeed (s : State) (c : SectionNo) (time : Time) : State :=
  let gates := s.bridgingGates c
  let name (s : State) (g : GateNo) : Option Bridge :=
    (s.topo.otherSide g c).map fun other => ⟨g, other, (s.holder g).map s.candidate⟩
  let s1 := s.setSec c { s.sec c with backfeed := true }
  let s2 := gates.foldl (fun s g => match s.holder g with
    | none => s
    | some n => s.applyFault n (.bridging g)) s1
  s2.raise (.backfeedEntered c time (s2.sec c).voltage gates.length ((gates.filterMap (name s2)).take 8) gates.isEmpty)

/-- R83: whether a reading counts towards BACKFEED: the voltage is up and nothing of the part's own explains it. -/
def unexplained (s : State) (c : SectionNo) (v : Nat) : Bool :=
  decide ((s.sectionSet c).uLive ≤ v) && !(s.sec c).fed && !s.underTest c &&
    !((s.topo.enabledFeeders c).any fun f => (s.breaker f).state.moving)

/-- R83, R84: the backfeed count and the entry to BACKFEED. -/
def judgeBackfeed (s : State) (c : SectionNo) (v : Nat) (time : Time) : State :=
  let r := s.sec c
  let n := if s.unexplained c v then min 10 (r.backfeedCount + 1) else 0
  let s1 := s.setSec c { r with backfeedCount := n }
  if r.live && n == 10 && !r.backfeed then s1.enterBackfeed c time else s1

/-- R85: entry to SUPPLY_LOST. -/
def judgeSupply (s : State) (c : SectionNo) (time : Time) : State :=
  let r := s.sec c
  if r.fed && r.deadCount == 10 && !r.supplyLost then
    (s.setSec c { r with supplyLost := true }).raise (.supplyLostEntered c time r.voltage
      ((s.topo.enabledFeeders c).filter fun f => (s.breaker f).state == .closed))
  else s

/-- One section's part in a measurement (R79–R85). An unfed section takes none; a HELD measurement changes nothing; a
BLIND-marked one sets the counts to 0. -/
def sectionStep (m : Measurement) (s : State) (c : SectionNo) : State :=
  let fs := s.topo.enabledFeeders c
  if fs.isEmpty then s
  else if m.blind then s.setSec c { s.sec c with liveCount := 0, deadCount := 0, backfeedCount := 0 }
  else if m.held then s
  else
    let v := sectionVoltage fs m
    (((s.setSec c (countReading (s.sectionSet c) v (s.sec c))).judgeEnergy c m.time).judgeBackfeed c v m.time).judgeSupply c m.time

/-- The Section Monitor takes a measurement, sections in ascending order (assumption log 8). -/
def sectionSteps (s : State) (m : Measurement) : State := (List.finRange 12).foldl (sectionStep m) s

end State

end Sys2Proof.Machine
end

