-- ==== Sys2Proof/Machine/Breakers.lean ====
section
/-! DEFINITION. The shared operations of the Breaker Sequencer: lockout (R61), trips and their consequences (R54–R60), the
dead time and its holds (R62, R63), the line test (R64–R68), closing (R69–R71), and what a moment takes up. -/

namespace Sys2Proof.Machine

/-- The causes that mean a fault on the line: they are attributed and intertrip (R54, R59). -/
def TripCause.onLine : TripCause → Bool
  | .inst | .delta | .reverse => true
  | .stuck | .thermal | .external | .intertrip => false

/-- The severity of a trip cause (04 section 4.2). -/
def TripCause.severity : TripCause → Nat
  | .stuck => 6
  | .reverse => 5
  | .inst => 4
  | .delta => 3
  | .thermal => 2
  | .external => 1
  | .intertrip => 0

/-- A real decision, an intertrip or an external trip on its way to a feeder (R43, R55, R59). -/
structure Decision where
  cause : TripCause
  time : Time
  peak : Nat
  sat : Bool
  delta : Option Int
  heat : Nat
  deriving DecidableEq, Repr

namespace State

/-- R60: the effective limit, N_reclose read at each use, at most 1 once the sequence is limited. -/
def effectiveLimit (s : State) (f : FeederNo) : Nat :=
  if (s.breaker f).limited then min (s.feederSet f).nReclose 1 else (s.feederSet f).nReclose

/-- The feeder's H is above its H_reclose. -/
def hot (s : State) (f : FeederNo) : Bool := decide ((s.feederSet f).hReclose < (s.protection f).heat)

/-- The section of an enabled feeder holds a lock. -/
def feederLocked (s : State) (f : FeederNo) : Bool := (s.topo.feederSection f).any s.locked

/-- The section of an enabled feeder is in BACKFEED. -/
def feederBackfed (s : State) (f : FeederNo) : Bool := (s.topo.feederSection f).any fun c => (s.sec c).backfeed

/-- The section of an enabled feeder is LIVE. -/
def feederLive (s : State) (f : FeederNo) : Bool := (s.topo.feederSection f).any s.isLive

/-- The partner is CLOSED. -/
def partnerClosed (s : State) (f : FeederNo) : Bool := (s.topo.partner f).any fun g => (s.breaker g).state == .closed

/-! ## Lockout and OPEN -/

/-- R61: one feeder enters LOCKED_OUT; the lockout is retained and LOCKOUT raised. -/
def lockOutOne (s : State) (f : FeederNo) (why : LockoutCause) : State :=
  let b := s.breaker f
  ((s.putBreaker f (.rest .lockedOut b.judged)).setLockout f (some why)).raise (.lockout f why b.attempts)

/-- R59, R63: a partner in DEAD_TIME that follows this feeder, by intertrip or as its follower. -/
def lockedWith (s : State) (f : FeederNo) : Option FeederNo :=
  match s.topo.partner f with
  | none => none
  | some g =>
    let b := s.breaker g
    if b.state = .deadTime ∧ (b.follows ∨ s.topo.leadOf g = some f) then some g else none

/-- A feeder enters LOCKED_OUT, taking a partner that follows it along with cause PARTNER (R59, R61, R63). -/
def lockOut (s : State) (f : FeederNo) (why : LockoutCause) : State :=
  let s1 := s.lockOutOne f why
  match s1.lockedWith f with
  | none => s1
  | some g => s1.lockOutOne g .partner

/-- A feeder goes to OPEN, any sequence, timer and test ended (R56, R73, R74). -/
def toOpen (s : State) (f : FeederNo) : State := s.putBreaker f (.rest .opened (s.breaker f).judged)

/-! ## Dead time -/

/-- R62: a feeder in DEAD_TIME is expired. With READY absent the ready wait starts, or at T_ready 0 the feeder is locked out. -/
def expire (s : State) (f : FeederNo) : State :=
  let b := s.breaker f
  let b1 := { b with expired := true, deadTimer := none }
  if s.ready f then s.putBreaker f { b1 with readyWait := none }
  else if (s.feederSet f).tReady = 0 then (s.putBreaker f b1).lockOut f .notReady
  else s.putBreaker f { b1 with readyWait := some (later s.now (s.feederSet f).tReady) }

/-- R59: an intertripped feeder that enters DEAD_TIME while its partner is LOCKED_OUT follows it. -/
def followsLocked (s : State) (f : FeederNo) : Bool :=
  (s.breaker f).follows && (s.topo.partner f).any fun g => (s.breaker g).state == .lockedOut

/-- A feeder enters DEAD_TIME with a new dead time (R62), or follows its partner (R59). -/
def toDeadTime (s : State) (f : FeederNo) : State :=
  let b := s.breaker f
  let s1 := s.putBreaker f
    { b with
      state := .deadTime, test := .idle, closeOut := false, expired := false, automatic := false
      openTimer := none, closeTimer := none, readyWait := none, reclaim := none
      deadTimer := some (later s.now (s.feederSet f).tDead) }
  if s.followsLocked f then s1.lockOut f .partner else s1

/-- A feeder returns to DEAD_TIME already expired, no attempt counted (R62, R67, R68), or follows its partner (R59). -/
def backToDeadTime (s : State) (f : FeederNo) : State :=
  let b := s.breaker f
  let s1 := s.putBreaker f { b with state := .deadTime, test := .idle, automatic := false, deadTimer := none }
  if s.followsLocked f then s1.lockOut f .partner else s1.expire f

/-- R63: the PARTNER hold of a follower, by its lead's state. -/
def partnerHold (s : State) (f : FeederNo) : Bool :=
  match s.topo.leadOf f with
  | none => false
  | some lead =>
    match (s.breaker lead).state with
    | .closed => !s.feederLive f
    | .closing | .opening | .deadTime | .testing => true
    | .opened | .stuck | .lockedOut => false

/-- The holds of R62 but PARTNER, in the order of its table. -/
def holdsButPartner (s : State) (f : FeederNo) : List Hold :=
  (if s.sst.mode = .run then [] else [Hold.mode])
    ++ (if s.scp.blind then [.blind] else [])
    ++ (if s.hot f then [.thermal] else [])
    ++ (if s.feederLocked f then [.locked] else [])
    ++ (if s.feederBackfed f then [.backfeed] else [])
    ++ (if (s.topo.feederSection f).any fun c => !(s.bridgingGates c).isEmpty then [.bridge] else [])
    ++ (if s.ready f then [] else [.ready])

/-- The holds in force on a feeder (R62). -/
def holds (s : State) (f : FeederNo) : List Hold :=
  s.holdsButPartner f ++ (if s.partnerHold f then [.partner] else [])

/-! ## Trips -/

/-- R56: the open is confirmed; the feeder goes on according to the cause of the opening. -/
def confirmOpen (s : State) (f : FeederNo) : State :=
  let b := s.breaker f
  match b.cause with
  | .hostOpen => s.toOpen f
  | .trip .reverse => s.lockOut f .reverse
  | .trip _ => if b.attempts < s.effectiveLimit f then s.toDeadTime f else s.lockOut f .noReclose

/-- R75: offer a trip to the trip record; the record is replaced when empty or less severe. -/
def offerTrip (s : State) (f : FeederNo) (r : TripRecord) (counted : Bool) : Bool × State :=
  let replaced : Bool := match s.trip f with
    | none => true
    | some held => decide (held.cause.severity < r.cause.severity)
  let n := if counted then min 255 (s.tripCount f + 1) else s.tripCount f
  (replaced, s.setTrip f (if replaced then some r else s.trip f) n)

/-- The attribution of a trip: asked of the tracker for the causes on the line, empty for the others (R54, R164). -/
def attributed (s : State) (f : FeederNo) (d : Decision) : Attribution × State :=
  match s.topo.feederSection f with
  | none => (.empty, s)
  | some c => if d.cause.onLine then s.attribute f c d.time else (.empty, s)

/-- The trip of a decision and an attribution, as the trip record and the TRIP notice take it (R54, R75). -/
def tripOf (d : Decision) (attempt : Nat) (a : Attribution) : TripRecord :=
  ⟨d.cause, d.time, some d.peak, d.sat, d.delta, d.heat, attempt, a.candidates, a.total, a.suspect⟩

/-- A feeder takes a trip: OPENING with its cause, attribution, trip record and TRIP notice (R54). The faulted-present mark limits the
sequence (R167); where another trip of the measurement makes a candidate FAULTED, State.shareFaulted sets it (R165). A feeder follows
its partner from an intertrip to the next trip it takes or the end of its sequence (R59; assumption log 39). -/
def enterTrip (s : State) (f : FeederNo) (d : Decision) : State :=
  let b := s.breaker f
  let s1 := s.putBreaker f
    { b with
      state := .opening, cause := .trip d.cause, inSequence := true, follows := d.cause == .intertrip
      automatic := false, closeOut := false, expired := false, test := .idle
      openTimer := some (later s.now (s.feederSet f).tOpenConf)
      closeTimer := none, deadTimer := none, readyWait := none, reclaim := none }
  let (a, s2) := s1.attributed f d
  let r := tripOf d b.attempts a
  let b2 := s2.breaker f
  let s3 := s2.setBreaker f { b2 with begun := some r, limited := b2.limited || a.faultedPresent }
  let (replaced, s4) := s3.offerTrip f r true
  s4.raise (.trip f r replaced)

/-- R54: a trip is taken; with AUX already open the open is confirmed at once. -/
def takeTrip (s : State) (f : FeederNo) (d : Decision) : State :=
  let s1 := s.enterTrip f d
  if s1.aux f then s1 else s1.confirmOpen f

/-- A feeder that acts on a decision: CLOSED or CLOSING (R43, R54). -/
def tripable (s : State) (f : FeederNo) : Bool :=
  (s.breaker f).state == .closed || (s.breaker f).state == .closing

/-- R59: the partner of a trip on the line is intertripped; `amps` is its own current in the deciding measurement. -/
def intertrip (s : State) (f : FeederNo) (time : Time) (current : Vector Sample 12) : State :=
  match s.topo.partner f with
  | none => s
  | some g =>
    if s.tripable g then
      s.takeTrip g ⟨.intertrip, time, current[g].amps.natAbs, current[g].sat, none, (s.protection g).heat⟩
    else s

/-- A real decision reaches a feeder (R54, R59): disregarded unless the feeder is CLOSED or CLOSING. -/
def handDecision (s : State) (f : FeederNo) (d : Decision) (current : Vector Sample 12) : State :=
  if s.tripable f then
    let s1 := s.takeTrip f d
    if d.cause.onLine then s1.intertrip f d.time current else s1
  else s

/-- R165: a feeder that took a trip of a measurement, once every trip of it is attributed. With a candidate now FAULTED its sequence is
limited, whichever trip came first; an open already confirmed is held against the lower limit (R56, R60; assumption log 37). -/
def shareFaulted (s : State) (f : FeederNo) : State :=
  let b := s.breaker f
  if b.inSequence ∧ !b.limited ∧ (s.topo.feederSection f).any fun c => s.faultedAmong (s.candidates c) then
    let s1 := s.setBreaker f { b with limited := true }
    if b.state = .deadTime ∧ s1.effectiveLimit f ≤ b.attempts then s1.lockOut f .noReclose else s1
  else s

/-! ## Closing -/

/-- R69: the close guard: what forbids CLOSE to stay asserted. -/
def guarded (s : State) (f : FeederNo) (automatic : Bool) : Bool :=
  s.feederLocked f || s.hot f || (automatic && s.feederBackfed f)

/-- A feeder enters CLOSING; an automatic entry counts an attempt (R60, R69). -/
def toClosing (s : State) (f : FeederNo) (automatic : Bool) : State :=
  let b := s.breaker f
  s.putBreaker f
    { b with
      state := .closing, automatic := automatic, test := .idle, expired := false
      closeOut := !s.guarded f automatic
      attempts := if automatic then b.attempts + 1 else b.attempts
      closeTimer := some (later s.now (s.feederSet f).tCloseConf)
      deadTimer := none, readyWait := none }

/-- R72: a host test ends without a close. -/
def endHostTest (s : State) (f : FeederNo) (outcome : TestOutcome) (judged : Option Judged) : State :=
  (s.toOpen f).raise (.testFail f outcome judged)

/-- A test passed, or a live close in its place (R67, R68, R72): the close starts unless something forbids it. The TEST_FAIL
ABANDONED of a host test carries the values judged, if any (assumption log 34). The attempt count is not held against the limit here
(assumption log 35). -/
def closeAfterTest (s : State) (f : FeederNo) (judged : Option Judged) : State :=
  if (s.breaker f).automatic then
    if (s.holdsButPartner f).isEmpty then s.toClosing f true else s.backToDeadTime f
  else if s.sst.mode = .run ∧ !s.feederLocked f ∧ !s.hot f ∧ s.ready f then s.toClosing f false
  else s.endHostTest f .abandoned judged

/-- R64: TESTING is entered. A feeder whose partner is CLOSED while the section is LIVE makes a live close; any other asserts
TEST and settles. -/
def toTesting (s : State) (f : FeederNo) (automatic : Bool) : State :=
  let b := { s.breaker f with automatic := automatic, state := .testing, expired := false, deadTimer := none, readyWait := none }
  if s.partnerClosed f && s.feederLive f then (s.putBreaker f b).toClosing f automatic
  else s.putBreaker f { b with test := .settle 0 }

/-- R68: a running test is abandoned; no attempt is counted. The TEST_FAIL ABANDONED of a host test not yet judged carries no values
(R72; assumption log 34). -/
def abandonTest (s : State) (f : FeederNo) : State :=
  if (s.breaker f).automatic then s.backToDeadTime f else s.endHostTest f .abandoned none

/-- R37: the inrush mask of a feeder is set. -/
def setMask (s : State) (f : FeederNo) : State :=
  let r := s.protection f
  s.setProtection f { r with mask := (s.feederSet f).nMask, window := .quiet r.window.iStart }

/-- R68: the partner's entry to CLOSED turns a running test into a live close. -/
def partnerOfClosed (s : State) (f : FeederNo) : State :=
  match s.topo.partner f with
  | none => s
  | some g =>
    let b := s.breaker g
    if b.state = .testing then (s.putBreaker g { b with test := .idle }).closeAfterTest g none else s

/-- R69: AUX confirms a close. An automatic close is reported and starts the reclaim; the inrush mask is set. -/
def confirmClose (s : State) (f : FeederNo) : State :=
  let b := s.breaker f
  let s1 :=
    if b.automatic then
      (s.putBreaker f
        { b with
          state := .closed, automatic := false, closeOut := false, closeTimer := none
          reclaim := some (later s.now (s.feederSet f).tReclaim) }).raise (.reclosed f b.attempts)
    else s.putBreaker f (.rest .closed b.judged)
  (s1.setMask f).partnerOfClosed f

/-- R71: an uncommanded close. -/
def uncommandedClose (s : State) (f : FeederNo) : State :=
  let b := s.breaker f
  let s1 := ((s.putBreaker f (.rest .closed b.judged)).setLockout f none).setMask f
  (s1.raise (.uncommanded f b.state)).partnerOfClosed f

/-! ## The line test -/

/-- R65: the vehicle count of a section: records, untracked counts, and engaged break gates whose from-segment is not a segment
of the section. -/
def vehicleCount (s : State) (c : SectionNo) : Nat :=
  let segs := s.topo.segmentsOf c
  (segs.map fun g => (s.queue g).length + s.untracked g).sum
    + ((s.topo.breakGates c).filter fun g => s.engaged g && s.topo.srcSection g != some c).length

/-- The busbar voltage of a feeder's group in a measurement (R7). -/
def busVoltage (s : State) (f : FeederNo) (m : Measurement) : Nat :=
  match s.topo.feeders[f].group with
  | .a => m.busA
  | .b => m.busB

/-- R66: a line test judged from its count and sums. -/
def judgeSums (set : SectionSet) (n sumI sumU sumBus : Nat) : Judged :=
  let g := if sumU = 0 then 65535 else min 65535 (1000 * sumI / sumU)
  let c := n * set.gVeh
  let gf := g - c
  let outcome : TestOutcome :=
    if sumBus / 16 < set.uBusMin then .inconclusive else if set.gFault ≤ gf then .fail else .pass
  ⟨n, sumI, sumU, sumBus / 16, g, c, gf, outcome⟩

/-- R67, R72: the outcome of a judged test. -/
def takeOutcome (s : State) (f : FeederNo) (j : Judged) : State :=
  let b := s.breaker f
  let s0 := s.putBreaker f { b with test := .idle, judged := some j }
  match j.outcome with
  | .pass => s0.closeAfterTest f (some j)
  | .fail | .inconclusive | .abandoned =>
    if b.automatic then
      let s1 := (s0.putBreaker f { b with test := .idle, judged := some j, attempts := b.attempts + 1 }).raise
        (.testFail f j.outcome (some j))
      if b.attempts + 1 < s1.effectiveLimit f then s1.toDeadTime f
      else s1.lockOut f (if j.outcome = .fail then .testFail else .busLow)
    else s0.endHostTest f j.outcome (some j)

/-- One averaged measurement is added to the sums (R65). -/
def addSums (s : State) (f : FeederNo) (m : Measurement) (n k i u bus : Nat) : LineTest :=
  .average n (k + 1) (i + m.current[f].amps.toNat) (u + m.line[f]) (bus + s.busVoltage f m)

/-- One feeder's line test takes a measurement (R64–R66, R68). -/
def testStep (m : Measurement) (s : State) (f : FeederNo) : State :=
  let b := s.breaker f
  match s.topo.feederSection f with
  | none => s
  | some c =>
    match b.test with
    | .idle => s
    | .settle k =>
      if m.held || m.blind then s
      else if k < (s.feederSet f).nSettle then s.setBreaker f { b with test := .settle (k + 1) }
      else s.setBreaker f { b with test := s.addSums f m (s.vehicleCount c) 0 0 0 0 }
    | .average n k i u bus =>
      if m.blind then s
      else if m.held then s.abandonTest f
      else match s.addSums f m n k i u bus with
        | .average n k i u bus =>
          if k = 16 then s.takeOutcome f (judgeSums (s.sectionSet c) n i u bus)
          else s.setBreaker f { b with test := .average n k i u bus }
        | .idle | .settle _ => s

/-- The Breaker Sequencer takes a measurement, feeders in ascending order. -/
def testSteps (s : State) (m : Measurement) : State := (List.finRange 12).foldl (testStep m) s

/-! ## What a moment takes up (R62, R69) -/

/-- One feeder at the end of an event: an expired feeder with no hold goes to TESTING, a follower whose lead is LOCKED_OUT is
locked out, and in CLOSING the close guard releases CLOSE. The attempt count is not held against the limit here (assumption
log 35). -/
def takeUpFeeder (s : State) (f : FeederNo) : State :=
  let b := s.breaker f
  match b.state with
  | .deadTime =>
    if !b.expired || !s.topo.feeders[f].enabled then s
    else if (s.topo.leadOf f).any fun lead => (s.breaker lead).state == .lockedOut then s.lockOut f .partner
    else if (s.holds f).isEmpty then s.toTesting f true
    else s
  | .closing => if b.closeOut && s.guarded f b.automatic then s.setBreaker f { b with closeOut := false } else s
  | .opened | .closed | .opening | .testing | .lockedOut | .stuck => s

/-- Every feeder at the end of an event, in ascending order. -/
def takeUpFeeders (s : State) : State := (List.finRange 12).foldl takeUpFeeder s

end State

end Sys2Proof.Machine
end

