-- ==== Sys2Proof/Machine/Protect.lean ====
section
/-! DEFINITION. The shared operations of the Feeder Protection Unit: one protection step (R31–R48) and its decisions. -/

namespace Sys2Proof.Machine

/-- How a measurement is to be treated (R32), the BLIND mark before all others. -/
inductive StepKind where
  | inSequence
  | broken
  | held
  | blind
  deriving DecidableEq, Repr

/-- The kind of a measurement (R32). -/
def Measurement.stepKind (m : Measurement) : StepKind :=
  if m.blind then .blind else if m.held then .held else if m.broken then .broken else .inSequence

/-- A run of consecutive samples takes one VALID sample (R33, R39). -/
def Run.take (r : Run) (counts : Bool) (x : Sample) : Run :=
  if counts then ⟨r.count + 1, max r.peak x.amps.natAbs, r.sat || x.sat⟩ else .zero

/-- A run takes a step: advanced on a VALID measurement, left on a HELD one, 0 on a BLIND-marked one (R32). -/
def Run.step (r : Run) (k : StepKind) (counts : Bool) (x : Sample) : Run :=
  match k with
  | .inSequence | .broken => r.take counts x
  | .held => r
  | .blind => .zero

/-- VALID without the BLIND mark, broken or not. -/
def StepKind.valid : StepKind → Bool
  | .inSequence | .broken => true
  | .held | .blind => false

/-- R33: an over-sample. -/
def overSample (set : FeederSet) (x : Sample) : Bool := decide (set.iMax ≤ x.amps.natAbs) || x.sat

/-- R39: a reverse sample. -/
def reverseSample (set : FeederSet) (x : Sample) : Bool := decide (x.amps ≤ -(set.iRevMax : Int))

/-- The history with all four entries at one current (R32). -/
def History.fill (a : Int) : History := ⟨a, a, a, a⟩

/-- The history with its oldest entry gone and a new one appended (R34). -/
def History.push (h : History) (a : Int) : History := ⟨h.h2, h.h3, h.h4, a⟩

/-- The increment of an open window judged against ΔI_trip (R36). -/
def Window.judge (w : Window) (set : FeederSet) (a : Int) : Window :=
  if (set.deltaTrip : Int) ≤ a - w.iStart then { w with overs := w.overs + 1 } else { w with overs := 0 }

/-- The window on a step that evaluates the rise `r` (R35, R36); `old` is the current four steps earlier. -/
def Window.advance (w : Window) (set : FeederSet) (old : Int) (r : Int) (x : Sample) : Window :=
  if !w.rising then
    if (set.rStart : Int) ≤ r then (Window.mk true old 1 0 x.amps.natAbs x.sat).judge set x.amps else w
  else if r < (set.rHold : Int) then .quiet w.iStart
  else if set.tRiseMax < w.length + 1 then .quiet w.iStart
  else
    ({ w with length := w.length + 1, peak := max w.peak x.amps.natAbs, sat := w.sat || x.sat } : Window).judge set x.amps

/-- The DELTA condition: an open window whose over-count has reached N_delta (R36). -/
def Window.met (w : Window) (set : FeederSet) : Bool := w.rising && decide (set.nDelta ≤ w.overs)

/-- The thermal step of R40: H takes q² less q_c², clamped. -/
def heatStep (set : FeederSet) (heat : Nat) (amps : Int) : Nat :=
  let q := amps.natAbs / 16
  let qc := set.iCont / 16
  min 2147483647 (heat + q * q - qc * qc)

/-- H or the shadow content after a step: left as it is on a BLIND-marked one (R40, R46). -/
def heatAfter (set : FeederSet) (k : StepKind) (heat : Nat) (amps : Int) : Nat :=
  match k with
  | .blind => heat
  | .inSequence | .broken | .held => heatStep set heat amps

/-- Whether DELTA fills the history instead of computing a rise: any measurement but a VALID one in sequence (R32), and the
first step of a pattern and the first after its end (R48). -/
def fills (r : Protection) (k : StepKind) : Bool := r.refill || k != .inSequence

/-- The advance of the four detectors' records on one step, before any restart (R32–R40, R46). `x` is the detector current,
`real` the feeder's own current. -/
def Protection.advance (r : Protection) (set : FeederSet) (k : StepKind) (x real : Sample) : Protection where
  history := if fills r k then .fill x.amps else r.history.push x.amps
  inst := r.inst.step k (overSample set x) x
  window :=
    if fills r k then .quiet r.window.iStart
    else if 0 < r.mask then r.window
    else r.window.advance set r.history.h1 (x.amps - r.history.h1) x
  reverse := r.reverse.step k (reverseSample set x) x
  heat := heatAfter set k r.heat real.amps
  mask := if k = .blind then r.mask else r.mask - 1
  shadow := r.shadow.map fun h => heatAfter set k h x.amps
  refill := false

/-- INST (R33): its run has reached 2 on a step that advanced it. -/
def instMet (k : StepKind) (r : Protection) : Bool := k.valid && decide (2 ≤ r.inst.count)

/-- REVERSE (R39): its run has reached 3 on a step that advanced it. -/
def reverseMet (k : StepKind) (r : Protection) : Bool := k.valid && decide (3 ≤ r.reverse.count)

/-- THERMAL (R41): a content at or above H_trip on a step without the BLIND mark. -/
def thermalMet (set : FeederSet) (k : StepKind) (heat : Nat) : Bool := k != .blind && decide (set.hTrip ≤ heat)

/-- A decision as a detector forms it (R43), the thermal content aside. -/
structure Chosen where
  cause : TripCause
  peak : Nat
  sat : Bool
  delta : Option Int
  deriving DecidableEq, Repr

/-- The decision of the first condition met in the order INST, DELTA, REVERSE, THERMAL (R42, R43). `r` is the advanced record,
`x` the current whose thermal content is judged. -/
def choose (set : FeederSet) (k : StepKind) (r : Protection) (x : Sample) (hot : Bool) (amps : Int) : Option Chosen :=
  if instMet k r then some ⟨.inst, r.inst.peak, r.inst.sat, none⟩
  else if r.window.met set then some ⟨.delta, r.window.peak, r.window.sat, some (amps - r.window.iStart)⟩
  else if reverseMet k r then some ⟨.reverse, r.reverse.peak, r.reverse.sat, none⟩
  else if hot then some ⟨.thermal, x.amps.natAbs, x.sat, none⟩
  else none

/-- R44: every detector whose condition is met restarts its record; the shadow content restarts after its own. -/
def Protection.restart (r : Protection) (set : FeederSet) (k : StepKind) : Protection :=
  { r with
    inst := if instMet k r then .zero else r.inst
    window := if r.window.met set then .quiet r.window.iStart else r.window
    reverse := if reverseMet k r then .zero else r.reverse
    shadow := r.shadow.map fun h => if thermalMet set k h then 0 else h }

/-- What one step gives: the record after it, a real decision, a test decision with the shadow content it carries. -/
structure StepResult where
  record : Protection
  real : Option Chosen
  test : Option (Chosen × Nat)
  deriving DecidableEq, Repr

/-- One protection step (R31). With an injected current the detectors run on it and give a test decision (R45, R47), and the
real current can give a THERMAL decision only; without one the decision is real. -/
def protectionStep (set : FeederSet) (k : StepKind) (real : Sample) (injected : Option Sample) (r : Protection) :
    StepResult :=
  let x := injected.getD real
  let r1 := r.advance set k x real
  let hot := thermalMet set k r1.heat
  match injected with
  | none => ⟨r1.restart set k, choose set k r1 real hot x.amps, none⟩
  | some j =>
    let shadow := r1.shadow.getD 0
    ⟨r1.restart set k, if hot then some ⟨.thermal, real.amps.natAbs, real.sat, none⟩ else none,
      (choose set k r1 j (r1.shadow.isSome && thermalMet set k shadow) x.amps).map fun c => (c, shadow)⟩

/-- R48: the record at the start or the end of an injection; the next step fills the history. -/
def Protection.turn (r : Protection) (shadow : Option Nat) : Protection :=
  { r with inst := .zero, reverse := .zero, window := .quiet r.window.iStart, shadow := shadow, refill := true }

namespace State

/-- The step of an enabled feeder on a measurement, from the state before it. -/
def stepOf (s : State) (m : Measurement) (f : FeederNo) : StepResult :=
  protectionStep (s.feederSet f) m.stepKind m.current[f] m.injected[f] (s.protection f)

/-- Every enabled feeder's record takes its step (R31); a disabled feeder's record is not stepped (R29). -/
def stepRecords (s : State) (m : Measurement) : State :=
  { s with fpu := Vector.ofFn fun f : FeederNo =>
      if s.topo.feeders[f].enabled then (s.stepOf m f).record else s.protection f }

/-- The position of the pattern value a measurement carries (R26, R47): the next one advances past it, so it is one below the
position once a value has been delivered. -/
def patternPosition (j : Injection) : Nat := if j.last.isSome then j.position - 1 else 0

/-- The decisions of one feeder are handed on (R43, R47): a test decision is reported, a real one goes to the breaker. `r` is
the result of the feeder's step; `s` already holds every stepped record. -/
def handOn (m : Measurement) (r : StepResult) (s : State) (f : FeederNo) : State :=
  let s1 := match r.test with
    | none => s
    | some (c, h) =>
      s.raise (.testTrip f c.cause m.time c.peak c.sat c.delta h (patternPosition (s.injection f)))
  match r.real with
  | none => s1
  | some c => s1.handDecision f ⟨c.cause, m.time, c.peak, c.sat, c.delta, (s.protection f).heat⟩ m.current

/-- The decisions of a measurement are handed on, in ascending order of feeder (assumption log 8). -/
def handOnAll (s : State) (m : Measurement) : State :=
  (List.finRange 12).foldl
    (fun t f => if s.topo.feeders[f].enabled then handOn m (s.stepOf m f) t f else t) (s.stepRecords m)

/-- A feeder took an attributed trip on a measurement (R164): it could trip before, its step gave a decision on the line, and it was
not intertripped in place of that (R59). `s` is the state before the measurement, `t` that after its decisions. -/
def tookOnLine (s : State) (m : Measurement) (t : State) (f : FeederNo) : Bool :=
  s.topo.feeders[f].enabled && s.tripable f && ((s.stepOf m f).real.any fun c => c.cause.onLine)
    && match (t.breaker f).cause with
      | .trip c => c.onLine
      | .hostOpen => false

/-- The Feeder Protection Unit takes a measurement: every record steps, then the decisions are handed on; a vehicle that is FAULTED
once the last trip is attributed counts for every trip of the measurement it is a candidate of (R165; assumption log 37). -/
def protectionSteps (s : State) (m : Measurement) : State :=
  let t := s.handOnAll m
  ((List.finRange 12).filter (s.tookOnLine m t)).foldl shareFaulted t

end State

end Sys2Proof.Machine
end

