-- ==== Sys2Proof/Machine/ScanOps.lean ====
section
/-! DEFINITION. The shared operations of the Scan Port: clamping (R16), the sequence (R17), injection patterns (R24–R27), the
measurement and its delivery (R18), BLIND (R20–R22). -/

namespace Sys2Proof.Machine

/-! ## Clamping and the frame -/

/-- A current as sent, clamped to −6000…+6000 A and marked when the clamp acts (R16, R25). -/
def clampCurrent (v : Int) : Sample :=
  if 6000 < v then ⟨6000, true⟩ else if v < -6000 then ⟨-6000, true⟩ else ⟨v, false⟩

/-- A voltage as sent, at most 1200 V (R16). -/
def clampVoltage (v : Nat) : Nat := min 1200 v

/-- A valid scan's content, clamped; the sequence is the low four bits of its byte (R14, R16, R189). -/
def scanOf (frame : List Byte) : Scan where
  seq := some ((byteAt frame 1).setWidth 4)
  current := Vector.ofFn fun f : FeederNo => clampCurrent (wordAt frame (2 + 2 * f.val)).toInt
  line := Vector.ofFn fun f : FeederNo => clampVoltage (wordAt frame (26 + 2 * f.val)).toNat
  busA := clampVoltage (wordAt frame 50).toNat
  busB := clampVoltage (wordAt frame 52).toNat

/-- R17: a scan is broken unless its sequence is its predecessor's plus 1 modulo 16; the first has no predecessor. -/
def isBroken (previous : Option (BitVec 4)) (seq : Option (BitVec 4)) : Bool :=
  match previous, seq with
  | some a, some b => b != a + 1
  | _, _ => true

/-! ## Injection patterns -/

/-- The pattern value at a position (R24, R25); absent without a pattern. -/
def Injection.value (j : Injection) (p : Nat) : Option Sample :=
  match j.pattern with
  | .none => none
  | .step => some ⟨if p < j.stepScan then j.base else j.arg, false⟩
  | .ramp => some (clampCurrent (j.base + p * j.arg))

/-- What a HELD or BLIND-marked measurement carries: the last delivered value, or the first one (R26). -/
def Injection.standing (j : Injection) : Option Sample :=
  match j.last with
  | some x => some x
  | none => j.value 0

/-- A feeder under injection takes its value and moves on (R26). -/
def Injection.advance (j : Injection) : Injection :=
  match j.value j.position with
  | none => j
  | some x => { j with position := j.position + 1, last := some x }

/-- A feeder is under injection (R23). -/
def Injection.running (j : Injection) : Bool := j.pattern ≠ .none

/-- The pattern has delivered its last value (R26). -/
def Injection.finished (j : Injection) : Bool := j.running && decide (j.length ≤ j.position)

namespace State

/-- R27, R48: injection on a feeder ends; its shadow content and pattern-driven records are discarded. -/
def endInjection (s : State) (f : FeederNo) : State :=
  if (s.injection f).running then
    (s.setInjection f .idle).setProtection f ((s.protection f).turn none)
  else s

/-- The patterns that have delivered their last value end after the measurement (R26). -/
def endFinished (s : State) : State :=
  (List.finRange 12).foldl (fun s f => if (s.injection f).finished then s.endInjection f else s) s

/-! ## Delivery -/

/-- The measurement of a valid scan (R18). With the BLIND mark the patterns stand still; without it each advances (R26). -/
def validMeasurement (s : State) (scan : Scan) (broken blind : Bool) : Measurement where
  held := false
  broken := broken
  blind := blind
  seq := scan.seq
  time := s.now
  current := scan.current
  injected := Vector.ofFn fun f : FeederNo =>
    if blind then (s.injection f).standing else (s.injection f).value (s.injection f).position
  line := scan.line
  busA := scan.busA
  busB := scan.busB

/-- The measurement of a held scan: the last valid scan again, the patterns standing still (R19, R26). -/
def heldMeasurement (s : State) : Measurement where
  held := true
  broken := false
  blind := false
  seq := s.scp.last.seq
  time := s.now
  current := s.scp.last.current
  injected := Vector.ofFn fun f : FeederNo => (s.injection f).standing
  line := s.scp.last.line
  busA := s.scp.last.busA
  busB := s.scp.last.busB

/-- Every pattern moves on by the value a measurement has taken (R26). -/
def advancePatterns (s : State) : State :=
  { s with scp := { s.scp with injection := Vector.ofFn fun f : FeederNo => (s.injection f).advance } }

/-- A measurement is delivered to protection, sections and line tests, in that order (R18; assumption log 8). -/
def deliver (s : State) (m : Measurement) : State :=
  let s1 := { s with scp := { s.scp with latest := some m } }
  (((s1.protectionSteps m).sectionSteps m).testSteps m)

/-! ## Acceptance and BLIND -/

/-- R22: BLIND ends; the inrush mask is set on every enabled feeder (assumption log 20) and the LEFT notice raised. The valid run,
not kept outside BLIND, holds 0 (assumption log 29). -/
def leaveBlind (s : State) : State :=
  let s1 := (List.finRange 12).foldl (fun s f => if s.topo.feeders[f].enabled then s.setMask f else s) s
  let s2 := s1.raise (.blindLeft s.scp.blindSince s.now)
  { s2 with scp := { s2.scp with blind := false, validRun := 0 } }

/-- The valid run after a valid scan accepted while BLIND (R21). -/
def nextValidRun (s : State) (broken : Bool) : Nat := if broken then 1 else s.scp.validRun + 1

/-- A valid scan is stored as the last one: its acceptance restarts the overdue wait and ends the held run (R15, R19). -/
def storeScan (s : State) (scan : Scan) : State :=
  { s with scp := { s.scp with last := scan, lastTime := s.now, heldRun := 0, overdueAt := later s.now 2 } }

/-- A valid scan is accepted (R15–R18, R21, R22, R26). -/
def acceptScan (s : State) (scan : Scan) : State :=
  let broken := isBroken s.scp.last.seq scan.seq
  let s1 := s.storeScan scan
  if s.scp.blind then
    let run := s.nextValidRun broken
    if run < 16 then
      let s2 := { s1 with scp := { s1.scp with validRun := run } }
      s2.deliver (s2.validMeasurement scan broken true)
    else
      (((s1.advancePatterns).deliver (s1.validMeasurement scan true false)).endFinished).leaveBlind
  else ((s1.advancePatterns).deliver (s1.validMeasurement scan broken false)).endFinished

/-- The zone time and sequence of the last valid scan, for the BLIND notice; none before the first (R20, R28). -/
def lastValid (s : State) : Option (Time × BitVec 4) := s.scp.last.seq.map fun q => (s.scp.lastTime, q)

/-- R68: every running line test is abandoned as the part enters BLIND. -/
def abandonTests (s : State) : State :=
  (List.finRange 12).foldl (fun s f => if (s.breaker f).testing then s.abandonTest f else s) s

/-- R20: BLIND is entered. -/
def enterBlind (s : State) : State :=
  let s1 := { s with scp := { s.scp with blind := true, validRun := 0, blindSince := s.now } }
  (s1.raise (.blindEntered s1.lastValid s1.now)).abandonTests

/-- R19: a held scan is supplied; the fourth in a row enters BLIND. -/
def supplyHeld (s : State) : State :=
  let m := s.heldMeasurement
  let s1 := { s with scp := { s.scp with heldRun := s.scp.heldRun + 1, overdueAt := later s.now 2 } }
  let s2 := s1.deliver m
  if s.scp.heldRun + 1 = 4 then s2.enterBlind else s2

end State

end Sys2Proof.Machine
end

