-- ==== Sys2Proof/Machine/Flags.lean ====
section
/-! DEFINITION. What the part derives from its state: the leg the detectors prove (R126), proving levels (R149), quiet (R151),
aspects (R139), lamps (R140) and the output lines (R52, R58, R126). -/

namespace Sys2Proof.Machine

namespace State

/-- R126: the leg the detectors prove; `none` when they are inconsistent. -/
def provenLeg (s : State) (p : PointNo) : Option Leg :=
  match s.pins.det0[p], s.pins.det1[p] with
  | true, false => some .zero
  | false, true => some .one
  | _, _ => none

/-- The point is fitted in the active topology. -/
def fitted (s : State) (p : PointNo) : Bool := s.topo.points[p].fitted

/-- The head of a point's zone queue. -/
def head (s : State) (p : PointNo) : Option ZoneEntry := (s.point p).queue.head?

/-- R151: the zone of a point is quiet. -/
def quiet (s : State) (p : PointNo) : Bool :=
  (s.point p).queue.isEmpty && (s.point p).reservations.isEmpty && !s.engaged s.topo.points[p].entry

/-- R139: the aspect, by the first row that applies. -/
def aspectOf (s : State) (p : PointNo) : Aspect :=
  let r := s.point p
  let n := r.leg
  match r.state with
  | .outOfService => .dark
  | .moving => .moving n
  | .failed => .stop
  | .set | .unknown =>
    if s.provenLeg p ≠ some n ∨ (s.head p).any (fun e => e.leg ≠ n) ∨ s.barred p n ∨ r.proofDemand then .stop
    else if r.state = .unknown ∨ r.proving.level = .lapsed ∨ (s.head p).any (fun e => e.source = .undetermined) then
      .caution n
    else .proceed n

end State

/-- R149: the level of an age. -/
def levelFor (set : PointSet) (a : Nat) : Level :=
  if a < set.tProve then .fresh
  else if a < set.tProve + set.tGrace then .due
  else if a < set.tProve + 2 * set.tGrace then .overdue
  else .lapsed

/-- The level as judged now: LAPSED stays LAPSED until a proof (R150). -/
def State.judgedLevel (s : State) (p : PointNo) : Level :=
  match (s.point p).proving.level with
  | .lapsed => .lapsed
  | .fresh | .due | .overdue => levelFor (s.pointSet p) (age s.now (s.point p).proving.proofTime)

/-! ## Output lines

A part without supply releases every output: the spec gives it no level (assumption log 6). -/

/-- A square wave of the given period is in its on half, which comes first (R140). -/
def waveOn (period sinceChange : Nat) : Bool := decide (2 * (sinceChange % period) < period)

/-- The lamps lit by an aspect (R140), `t` ms after its change: LAMP0, LAMP1, LAMPX. -/
def lampsOf (a : Aspect) (t : Nat) : Bool × Bool × Bool :=
  let leg (l : Leg) (on : Bool) : Bool × Bool × Bool := (l == .zero && on, l == .one && on, false)
  match a with
  | .dark => (false, false, false)
  | .proceed l => leg l true
  | .caution l => leg l (waveOn 1000 t)
  | .moving l => leg l (waveOn 500 t)
  | .stop => (false, false, waveOn 250 t && waveOn 1000 t)

namespace State

/-- LAMP0, LAMP1 and LAMPX of a point now (R140); dark without supply (assumption log 6). -/
def lamps (s : State) (p : PointNo) : Bool × Bool × Bool :=
  if s.powered then lampsOf (s.point p).aspect (age s.now (s.point p).cadence) else (false, false, false)

/-- DRIVE0 or DRIVE1 (R126): asserted while the point is MOVING towards that leg, released without supply (assumption log 6). -/
def drive (s : State) (p : PointNo) (l : Leg) : Bool :=
  s.powered && (s.point p).state == .moving && (s.point p).leg == l

/-- CLOSE (R52, R69); released without supply (assumption log 6). -/
def closeLine (s : State) (f : FeederNo) : Bool :=
  s.powered && (s.breaker f).state == .closing && (s.breaker f).closeOut

/-- TRIP (R52): asserted in OPENING and STUCK, released without supply (assumption log 6). -/
def tripLine (s : State) (f : FeederNo) : Bool :=
  s.powered && ((s.breaker f).state == .opening || (s.breaker f).state == .stuck)

/-- TEST (R52): asserted while a test runs, released without supply (assumption log 6). -/
def testLine (s : State) (f : FeederNo) : Bool := s.powered && (s.breaker f).testing

/-- INCOMER_TRIP (R58); released without supply (assumption log 6). -/
def incomerLine (s : State) (g : Group) : Bool :=
  s.powered && match g with
    | .a => s.bsq.latchA
    | .b => s.bsq.latchB

end State

end Sys2Proof.Machine
end

