-- ==== Sys2Proof/Machine/PointOps.lean ====
section
/-! DEFINITION. The shared operations of the Point Controller: levels (R149, R150), movements (R133, R134), exercises (R152–R155),
quiet (R151), aspects and marks (R138, R139), failures and service (R134, R135, R142), entries (R129–R131) and exits (R136,
R137), telegrams (R128). -/

namespace Sys2Proof.Machine

namespace State

/-- The set leg, in the states that have one (R124). -/
def setLeg (r : PointRec) : Option Leg :=
  match r.state with
  | .set | .unknown => some r.leg
  | .moving | .failed | .outOfService => none

/-! ## Levels -/

/-- R149, R150: the level is judged afresh; a change stops the quiet timer and the readiness, entry to LAPSED is reported. -/
def judgeLevel (s : State) (p : PointNo) : State :=
  let r := s.point p
  let l := s.judgedLevel p
  if l = r.proving.level then s
  else
    let s1 := s.setPoint p { r with proving := { r.proving with level := l, quietTimer := none, ready := false } }
    if l = .lapsed then s1.raise (.pointLapsed p r.state (setLeg r) r.proving.proofTime s.now) else s1

/-! ## Leaving a state -/

/-- A point's exercise ends (R155). -/
def PointRec.idle (r : PointRec) : PointRec := { r with proving := { r.proving with phase := .idle } }

/-- The point is in OUT_OF_SERVICE (R142): its queues, confirmed flag and proof demand are kept. -/
def PointRec.retire (r : PointRec) : PointRec :=
  PointRec.idle
    { r with
      state := .outOfService, failure := none, serviceOut := false
      moveTimer := none, arrivalWait := none, detectionWait := none }

/-- The point enters FAILED (R134, R135, R129). A service-out pending from the movement then takes it out of service. -/
def PointRec.fail (r : PointRec) (why : FailCause) : PointRec :=
  let r1 := PointRec.idle
    { r with state := .failed, failure := some why, moveTimer := none, arrivalWait := none, detectionWait := none }
  if r.serviceOut then PointRec.retire r1 else r1

/-- FAILED with a POINT_FAILED notice (R134, R135, R142). -/
def failPoint (s : State) (p : PointNo) (why : FailCause) (leg : Option Leg) : State :=
  (s.setPoint p (PointRec.fail (s.point p) why)).raise (.pointFailed p why leg s.pins.det0[p] s.pins.det1[p])

/-- Proof demand is set (R136, R143); in RETURN_WAIT the exercise ends (R154). -/
def PointRec.demand (r : PointRec) : PointRec :=
  { r with
    proofDemand := true
    proving := { r.proving with phase := if r.proving.phase = .returnWait then .idle else r.proving.phase } }

/-! ## Movements -/

/-- A movement begins (R133, R134): MOVING towards the target, the move timer started, the arrival wait too when the
detectors already prove the target. -/
def startMove (s : State) (p : PointNo) (target : Leg) : State :=
  s.setPoint p
    { s.point p with
      state := .moving, leg := target, detectionWait := none
      moveTimer := some (later s.now (s.pointSet p).tMove)
      arrivalWait := if s.provenLeg p = some target then some (later s.now 50) else none }

/-- The first three requirements of R133, R152 and R154. -/
def mayMove (s : State) (p : PointNo) : Bool :=
  s.fitted p && (s.point p).state == .set && s.sst.mode == .run && !(s.point p).serviceOut

/-- R133: the target of the movement that is to start, for the head or on demand. -/
def movementTarget (s : State) (p : PointNo) : Option Leg :=
  let r := s.point p
  if !s.mayMove p then none
  else
    let demanded := if r.proofDemand then some r.leg.other else none
    match r.queue with
    | [] => demanded
    | h :: _ =>
      if h.mark.isSome then none
      else if h.leg ≠ r.leg ∧ !s.barred p h.leg then some h.leg
      else demanded

/-- R133: a movement starts, if one is to. -/
def takeUpMovement (s : State) (p : PointNo) : State :=
  match s.movementTarget p with
  | none => s
  | some l => s.startMove p l

/-- R152: an exercise is to start. -/
def exerciseDue (s : State) (p : PointNo) : Bool :=
  let r := s.point p
  s.mayMove p && r.proving.phase == .idle && !r.proofDemand && r.queue.isEmpty &&
    (r.proving.level == .overdue || r.proving.level == .lapsed || r.proving.request ||
      (r.proving.level == .due && r.proving.ready))

/-- R152: an exercise starts, if one is to. -/
def takeUpExercise (s : State) (p : PointNo) : State :=
  if s.exerciseDue p then
    let r := s.point p
    (s.setPoint p
      { r with
        proving :=
          { r.proving with
            phase := .outbound, home := r.leg, quietTimer := none, ready := false
            exercises := min 65535 (r.proving.exercises + 1) } }).startMove p r.leg.other
  else s

/-- R154: a return is to start. -/
def returnDue (s : State) (p : PointNo) : Bool :=
  let r := s.point p
  s.mayMove p && r.proving.phase == .returnWait && !r.proofDemand && r.queue.isEmpty

/-- R154: a return starts, if one is to. -/
def takeUpReturn (s : State) (p : PointNo) : State :=
  if s.returnDue p then
    let r := s.point p
    (s.setPoint p { r with proving := { r.proving with phase := .returning } }).startMove p r.proving.home
  else s

/-- The exercise mark of the movement that ends (R153, R154). -/
def exerciseMark : Phase → ExerciseMark
  | .outbound => .outbound
  | .returning => .returning
  | .idle | .returnWait => .none

/-- The phase after an arrival (R153, R154): an outbound one waits for its return while the zone queue is empty. -/
def phaseAfterArrival (r : PointRec) : Phase :=
  match r.proving.phase with
  | .outbound => if r.queue.isEmpty then .returnWait else .idle
  | .idle | .returnWait | .returning => .idle

/-- The record after an arrival: SET at the target, proof demand cleared, a proof recorded (R134, R148). -/
def PointRec.arrive (r : PointRec) (now : Time) : PointRec :=
  { r with
    state := .set, proofDemand := false, moveTimer := none, arrivalWait := none, detectionWait := none
    proving :=
      { r.proving with
        proofTime := now, level := .fresh, request := false, quietTimer := none, ready := false
        proofs := min 65535 (r.proving.proofs + 1), phase := phaseAfterArrival r } }

/-- R134: a movement ends by its arrival; a service-out pending then takes the point out of service. -/
def arrive (s : State) (p : PointNo) : State :=
  let r := s.point p
  let r1 := PointRec.arrive r s.now
  (s.setPoint p (if r.serviceOut then PointRec.retire r1 else r1)).raise
    (.pointSet p r.leg .movement (exerciseMark r.proving.phase))

/-! ## The end of an event -/

/-- R151: the quiet timer runs while the level is DUE, no exercise is under way and the zone is quiet; readiness ends with
quiet. -/
def takeUpQuiet (s : State) (p : PointNo) : State :=
  let r := s.point p
  let runs := r.proving.level == .due && r.proving.phase == .idle && s.quiet p
  let timer := if runs then
      (if r.proving.quietTimer.isNone && !r.proving.ready then some (later s.now (s.pointSet p).tQuiet) else r.proving.quietTimer)
    else none
  s.setPoint p { r with proving := { r.proving with quietTimer := timer, ready := r.proving.ready && s.quiet p } }

/-- The leg a proceed or caution aspect shows (R138). -/
def Aspect.shown : Aspect → Option Leg
  | .proceed l => some l
  | .caution l => some l
  | .dark | .moving _ | .stop => none

/-- R138: the head takes the proceed-given mark when the aspect shows its leg, and its overdue timer starts. -/
def markHead (now : Time) (tZone : Nat) (shown : Option Leg) : List ZoneEntry → List ZoneEntry
  | [] => []
  | h :: rest =>
    if h.mark.isNone && shown == some h.leg then { h with mark := some now, overdue := some (later now tZone) } :: rest
    else h :: rest

/-- R139, R140, R138: the aspect is derived afresh, its change restarts the cadence, and the mark is taken up. -/
def deriveAspect (s : State) (p : PointNo) : State :=
  let r := s.point p
  let a := s.aspectOf p
  s.setPoint p
    { r with
      aspect := a
      cadence := if a = r.aspect then r.cadence else s.now
      queue := markHead s.now (s.pointSet p).tZone (Aspect.shown a) r.queue }

/-- One fitted point at the end of an event: quiet, movement, exercise, return, aspect. -/
def takeUpPoint (s : State) (p : PointNo) : State :=
  if s.fitted p then
    (((((s.takeUpQuiet p).takeUpMovement p).takeUpExercise p).takeUpReturn p).deriveAspect p)
  else s

/-- Every fitted point at the end of an event, in ascending order. -/
def takeUpPoints (s : State) : State := (List.finRange 16).foldl takeUpPoint s

/-! ## DRAINING (R174) -/

/-- R174: nothing is left to drain: no fitted point MOVING, no enabled feeder CLOSING, OPENING or TESTING. -/
def drained (s : State) : Bool :=
  ((List.finRange 16).all fun p => !(s.fitted p && (s.point p).state == .moving)) &&
    ((List.finRange 12).all fun f => !(s.topo.feeders[f].enabled &&
      ((s.breaker f).state == .closing || (s.breaker f).state == .opening || (s.breaker f).state == .testing)))

/-- A change of mode, with its notice (R173). -/
def changeMode (s : State) (m : Mode) : State :=
  ({ s with sst := { s.sst with mode := m } }).raise (.mode s.sst.mode m s.now)

/-- R170, R174: DRAINING becomes CONFIGURE once nothing is left; the topology generation is noted. -/
def takeUpDrain (s : State) : State :=
  if s.sst.mode = .draining ∧ s.drained then
    let s1 := s.changeMode .configure
    { s1 with sst := { s1.sst with notedGen := s1.sst.topologyGen } }
  else s

/-- What an event's end takes up (assumption log 7): feeders whose last hold is lifted and the close guard, the end of
DRAINING, then points: movements, exercises, returns, aspects and marks. -/
def takeUp (s : State) : State := (s.takeUpFeeders.takeUpDrain).takeUpPoints

/-! ## Detectors and the record at rest -/

/-- The record of a point put to rest at a reset or by a change of topology (R12, R146): UNKNOWN at the leg its detectors prove,
or FAILED; unconfirmed, queues empty, drives off. A point that was FAILED and stays so keeps its first cause (R124); any other
takes DETECTION, which R146 gives for a reset and the model for a change of topology (assumption log 15). -/
def restPoint (s : State) (p : PointNo) (r : PointRec) : PointRec :=
  let r1 : PointRec := PointRec.idle
    { r with confirmed := false, queue := [], reservations := [], moveTimer := none, arrivalWait := none, detectionWait := none }
  match s.provenLeg p with
  | some l => { r1 with state := .unknown, leg := l, failure := none }
  | none => { r1 with state := .failed, failure := (if r.state = .failed then r.failure else none).or (some .detection) }

/-- R134, R135: the waits after a change of the detectors. -/
def watchDetectors (s : State) (p : PointNo) : State :=
  let r := s.point p
  let proved := s.provenLeg p == some r.leg
  match r.state with
  | .moving =>
    s.setPoint p { r with
      arrivalWait := if proved then (if r.arrivalWait.isNone then some (later s.now 50) else r.arrivalWait) else none }
  | .set | .unknown =>
    s.setPoint p { r with
      detectionWait := if proved then none else (if r.detectionWait.isNone then some (later s.now 200) else r.detectionWait) }
  | .failed | .outOfService => s

/-! ## Entries (R129–R131) -/

/-- R130: the leg and source of an admitted entry. `bound` is the oldest live reservation. -/
def routeOf (s : State) (p : PointNo) (bound : Option Reservation) (flag : CurrentFlag) : Leg × Source :=
  let set := s.pointSet p
  let byCurrent : Leg × Source :=
    if set.currentOn then
      if s.isLive s.topo.segments[s.topo.points[p].approach] then
        match flag with
        | .drawing => (set.powerLeg, .current)
        | .coasting => (set.powerLeg.other, .current)
        | .unknown => (set.defaultLeg, .undetermined)
      else (set.defaultLeg, .undetermined)
    else (set.defaultLeg, .default)
  match (s.point p).route with
  | .fixed l => (l, .override)
  | .auto =>
    match bound.bind (·.leg) with
    | some l => (l, .tag)
    | none => byCurrent

/-- R131, R154: an entry joins the zone queue; in RETURN_WAIT the exercise ends with it. -/
def joinZone (s : State) (p : PointNo) (n : SlotNo) (leg : Leg) (source : Source) : State :=
  let r := s.point p
  s.setPoint p
    { r with
      queue := r.queue ++ [⟨n, leg, source, none, none⟩]
      proving := { r.proving with phase := if r.proving.phase = .returnWait then .idle else r.proving.phase } }

/-- R129: an entry report finds 3 entries: ZONE_OVERFULL, and a SET or MOVING point fails. -/
def overfull (s : State) (p : PointNo) : State :=
  let r := s.point p
  let a := s.topo.points[p].approach
  let s1 := s.raise (.zoneOverfull p a ((s.queue a)[3]?) s.now)
  match r.state with
  | .set | .moving => s1.setPoint p (PointRec.fail r .overfull)
  | .unknown | .failed | .outOfService => s1

/-- The reservation list without its oldest reservation. -/
def dropReservation (s : State) (p : PointNo) : State :=
  s.setPoint p { s.point p with reservations := (s.point p).reservations.tail }

/-- An entry report (R129–R131), with the flag it carries. -/
def entryReport (s : State) (p : PointNo) (flag : CurrentFlag) : State :=
  let r := s.point p
  let bound := r.reservations.head?
  if !r.confirmed then s.dropReservation p
  else if 3 ≤ r.queue.length then s.overfull p
  else
    let (leg, source) := s.routeOf p bound flag
    match (s.dropReservation p).vehicleAtEntry p (bound.map (·.fleet)) flag with
    | (none, s1) => s1
    | (some n, s1) => s1.joinZone p n leg source

/-! ## Exits (R136, R137) -/

/-- The Point Controller's part in an exit completion, after the tracker has moved the approach head. -/
def exitReport (s : State) (p : PointNo) (leg : Leg) (g : GateNo) (placed : Option Candidate) : State :=
  let r := s.point p
  let astray := r.state == .set && leg != r.leg
  match r.queue with
  | e :: rest =>
    let r1 := { r with queue := rest }
    let s1 := s.setPoint p (if leg ≠ e.leg ∨ astray then PointRec.demand r1 else r1)
    if leg ≠ e.leg then s1.applyFault e.slot (.wrongLeg p leg) else s1
  | [] =>
    let s1 := if r.confirmed then s.raise (.entryMissed p g leg placed s.now) else s
    if astray then s1.setPoint p (PointRec.demand r) else s1

/-! ## Telegrams (R128) -/

/-- A reservation list takes a telegram: renewed in place, appended, or appended after the oldest is dropped. -/
def reserve (l : List Reservation) (r : Reservation) : List Reservation :=
  if l.any (fun q => q.fleet == r.fleet) then l.map fun q => if q.fleet = r.fleet then r else q
  else if l.length < 2 then l ++ [r]
  else l.tail ++ [r]

/-- R127, R128: a good telegram is taken when its point is fitted and its tag reader enabled. -/
def takeTelegram (s : State) (t : Telegram) : State :=
  let p := t.reader
  if s.fitted p && (s.pointSet p).tagReader then
    s.setPoint p { s.point p with
      reservations := reserve (s.point p).reservations ⟨t.fleet, t.leg, s.now, later s.now (s.pointSet p).tResv⟩ }
  else s

end State

end Sys2Proof.Machine
end

