-- ==== Sys2Proof/Machine/GateOps.lean ====
section
/-! DEFINITION. The shared operations of the Gate Scanner: engagement (R94), the current flag (R95), completion (R96, R98), pole
faults (R97), settling (R100), and what is handed on (R101, R108–R110). -/

namespace Sys2Proof.Machine

namespace State

/-! ## Handing on to the tracker (R108–R110) -/

/-- R108, R109: an engagement applies to the head of the from-queue, or at an ENTRY gate to the vehicle at the entry. -/
def engagement (s : State) (g : GateNo) : State :=
  let t := s.topo.gates[g]
  let who : Option SlotNo :=
    match t.role with
    | .entry => (s.topo.entryPoint g).bind s.expected
    | .plain | .exit0 | .exit1 => t.src.bind fun a => (s.queue a).head?
    | .unused => none
  match who with
  | none => s
  | some n => s.takeGate n g

/-- R109: an ENTRY completion; the record that holds the gate gives it up. -/
def entryCompletion (s : State) (g : GateNo) (flag : CurrentFlag) : State :=
  match s.holder g with
  | none => s
  | some n => (s.releaseGate g).modVehicle n fun v => { v with lastActivity := s.now, lastFlag := flag }

/-- R110, R159: a pole fault applies to the record that holds the gate, or is reported with no slot. -/
def poleFault (s : State) (g : GateNo) (missing : Missing) : State :=
  match s.holder g with
  | none => s.raise (.strayPoleFault g missing s.now)
  | some n => (s.modVehicle n fun v => { v with lastActivity := s.now }).applyFault n (.poleFault g missing)

/-! ## The passage -/

/-- The level of the current flag input, as a captured flag (R95). -/
def readFlag (s : State) (g : GateNo) : CurrentFlag := if s.pins.currentFlag[g] then .drawing else .coasting

/-- The stuck mark is cleared with its notice (R99). -/
def clearStuck (s : State) (g : GateNo) : State :=
  if (s.gate g).stuck then (s.setGate g { s.gate g with stuck := false }).raise (.gateCleared g s.now) else s

/-- R94: an activation engages an ARMED gate; the engagement and, at an ENTRY gate touched on its positive side, the entry
report are handed on. -/
def engage (s : State) (g : GateNo) (c : Contact) : State :=
  let pos : Bool := c == .positive
  let flag : CurrentFlag := if pos then s.readFlag g else .unknown
  let s1 := (s.setGate g
    { s.gate g with
      state := .engaged, engagedAt := s.now, posSeen := pos, negSeen := !pos, missing := .none, flag := flag, stuck := false
      poleTimer := some (later s.now (s.gateSet g).tPole), stuckTimer := some (later s.now (s.gateSet g).tStuck) }).engagement g
  match s1.topo.entryPoint g with
  | some p => if pos then s1.entryReport p flag else s1
  | none => s1

/-- R96, R98: the passage is complete: the gate is ARMED again, and the completion is handed on. GATE_STUCK CLEARED is raised before
the notices of the completion (assumption log 26). -/
def completePassage (s : State) (g : GateNo) : State :=
  let r := s.gate g
  let s1 := (s.setGate g { r with state := .armed, poleTimer := none, stuckTimer := none }).clearStuck g
  match s.topo.gates[g].role with
  | .unused => s1
  | .entry => s1.entryCompletion g r.flag
  | .plain => (s1.complete g r.flag r.missing r.engagedAt).2
  | .exit0 | .exit1 =>
    match s1.complete g r.flag r.missing r.engagedAt with
    | (done, s2) =>
      match s.topo.exitPoint g with
      | none => s2
      | some (p, leg) => s2.exitReport p leg g done.placed

/-- R95, R96, R98: an activation within a passage marks its contact seen, reads the flag at the positive contact's first, and
stops the pole timer once both are seen. The entry report goes with the positive contact's first activation, unless the pole
fault has already sent it (R101). -/
def seeContact (s : State) (g : GateNo) (c : Contact) : State :=
  let r := s.gate g
  match c with
  | .negative => s.setGate g { r with negSeen := true, poleTimer := if r.posSeen then none else r.poleTimer }
  | .positive =>
    if r.posSeen then s
    else
      let flag := s.readFlag g
      let s1 := s.setGate g { r with posSeen := true, flag := flag, poleTimer := if r.negSeen then none else r.poleTimer }
      match s.topo.entryPoint g with
      | some p => if r.state = .engaged then s1.entryReport p flag else s1
      | none => s1

/-- R100: settling ends: ARMED, nothing handed on. -/
def endSettling (s : State) (g : GateNo) : State :=
  (s.setGate g { s.gate g with state := .armed, settling := false, stuckTimer := none }).clearStuck g

/-- An accepted change of a contact of a used gate (R94–R98, R100); its accepted level has already been taken. -/
def contactEvent (s : State) (g : GateNo) (c : Contact) (active : Bool) : State :=
  let r := s.gate g
  let bothIdle := !r.posLevel && !r.negLevel
  if r.settling then (if bothIdle then s.endSettling g else s)
  else match r.state with
    | .armed => if active then s.engage g c else s
    | .engaged =>
      if active then s.seeContact g c
      else if r.posSeen && r.negSeen && bothIdle then s.completePassage g else s
    | .held =>
      if active then s.seeContact g c
      else if bothIdle then s.completePassage g else s

/-- R97, R98: the pole timer expires with one contact seen. -/
def missPole (s : State) (g : GateNo) : State :=
  let r := s.gate g
  let missing : Missing := if r.posSeen then .negative else .positive
  let s1 := (s.setGate g { r with state := .held, missing := missing, poleTimer := none }).poleFault g missing
  let s2 := match s.topo.entryPoint g with
    | some p => if r.posSeen then s1 else s1.entryReport p .unknown
    | none => s1
  if !r.posLevel && !r.negLevel then s2.completePassage g else s2

/-! ## Gates at reset and at a change of topology (R100) -/

/-- A gate as a reset or a change of topology leaves it: accepted levels from the inputs; a used gate with a contact active
settles. -/
def startGate (s : State) (used : Bool) (g : GateNo) : GateRec :=
  let pos := s.pins.positive[g]
  let neg := s.pins.negative[g]
  let r := GateRec.armed pos neg
  if used && (pos || neg) then
    { r with state := .engaged, settling := true, engagedAt := s.now, stuckTimer := some (later s.now (s.gateSet g).tStuck) }
  else r

end State

end Sys2Proof.Machine
end

