-- ==== Sys2Proof/Machine/Operands.lean ====
section
/-! DEFINITION. The operands of requests: indices and enumerated values (R182, R189), and the fields of the setting records with
their classes and ranges (R2, R30, R53, R78, R93, R125, R147, R158), merged and judged as R169 gives. -/

namespace Sys2Proof.Machine

/-! ## Indices -/

/-- A byte as an index below `n`; `none` is out of range. -/
def indexOf (n : Nat) (b : Byte) : Option (Fin n) := if h : b.toNat < n then some ⟨b.toNat, h⟩ else none

/-- No detail: every byte 0xFF (R182). -/
def Detail.blank : Detail := ⟨none, none, none⟩

/-- A detail that names one record. -/
def Detail.record (kind index : Nat) : Detail := ⟨some kind, some index, none⟩

/-- A setting record named by kind and index (R168): ZONE 0, FEEDER 1, SECTION 2, SEGMENT 3, GATE 4, POINT 5. -/
inductive RecordId where
  | zone
  | feeder (f : FeederNo)
  | sec (c : SectionNo)
  | segment (g : SegmentNo)
  | gate (g : GateNo)
  | point (p : PointNo)
  deriving DecidableEq, Repr

/-- The record a kind and an index name; `none` is BAD_INDEX. -/
def recordOf (kind index : Byte) : Option RecordId :=
  match kind.toNat with
  | 0 => if index.toNat = 0 then some .zone else none
  | 1 => (indexOf 12 index).map .feeder
  | 2 => (indexOf 12 index).map .sec
  | 3 => (indexOf 32 index).map .segment
  | 4 => (indexOf 64 index).map .gate
  | 5 => (indexOf 16 index).map .point
  | _ => none

/-! ## Field classes and ranges -/

/-- How an out-of-range value is treated (R169): a topology field and a plain field are refused, a timer is clamped. -/
inductive FieldClass where
  | topology
  | plain
  | timer
  deriving DecidableEq, Repr

/-- What values a field has: a range, a range or NONE/OFF (255), or a feeder list. -/
inductive FieldRange where
  | between (lo hi : Int)
  | orNone (hi : Int)
  | feeders
  deriving DecidableEq, Repr

/-- A field of a setting record. -/
structure FieldSpec where
  cls : FieldClass
  range : FieldRange
  deriving DecidableEq, Repr

/-- A topology field with a plain range. -/
def topoField (lo hi : Int) : FieldSpec := ⟨.topology, .between lo hi⟩

/-- A threshold, a count or an enumerated choice. -/
def plainField (lo hi : Int) : FieldSpec := ⟨.plain, .between lo hi⟩

/-- A timer, in ms. -/
def timerField (lo hi : Int) : FieldSpec := ⟨.timer, .between lo hi⟩

/-- The fields of the ZONE record (R158). -/
def zoneFields : List FieldSpec := [timerField 60000 3600000, timerField 0 10000]

/-- The fields of a FEEDER record (R2, R30, R53). -/
def feederFields : List FieldSpec :=
  [topoField 0 1, ⟨.topology, .orNone 11⟩, topoField 0 1,
    plainField 200 6000, plainField 20 2000, plainField 10 2000, plainField 100 6000, plainField 1 50, plainField 10 500,
    plainField 0 500, plainField 50 3000, plainField 160 3000, plainField 1000000 2000000000, plainField 0 1999999999,
    timerField 10 500, timerField 20 1000, timerField 1000 600000, timerField 0 60000, timerField 5000 600000,
    plainField 0 3, plainField 10 500]

/-- The fields of a SECTION record (R2, R53, R78). -/
def sectionFields : List FieldSpec :=
  [⟨.topology, .feeders⟩, plainField 0 255, plainField 300 1000, plainField 10 10000, plainField 100 1000, plainField 0 950]

/-- The fields of a SEGMENT record (R2). -/
def segmentFields : List FieldSpec := [topoField 0 11]

/-- The fields of a GATE record (R2, R93). -/
def gateFields : List FieldSpec :=
  [topoField 0 4, ⟨.topology, .orNone 31⟩, ⟨.topology, .orNone 31⟩, timerField 500 5000, timerField 10000 600000]

/-- The fields of a POINT record (R2, R125, R147). -/
def pointFields : List FieldSpec :=
  [topoField 0 1, topoField 0 31, topoField 0 31, topoField 0 31, topoField 0 63, topoField 0 63, topoField 0 63,
    plainField 0 1, plainField 0 1, plainField 0 1, plainField 0 1,
    timerField 500 5000, timerField 5000 255000, timerField 10000 600000,
    timerField 60000 3600000, timerField 10000 600000, timerField 1000 60000]

/-- The fields of a record, numbered from 1 in this order (R189). -/
def RecordId.specs : RecordId → List FieldSpec
  | .zone => zoneFields
  | .feeder _ => feederFields
  | .sec _ => sectionFields
  | .segment _ => segmentFields
  | .gate _ => gateFields
  | .point _ => pointFields

/-! ## Values on the wire -/

/-- YES is 1, NO is 0 (R189). -/
def ofBool (b : Bool) : Int := if b then 1 else 0

/-- NONE and OFF are 255. -/
def ofOption {n : Nat} (o : Option (Fin n)) : Int :=
  match o with
  | none => 255
  | some i => i.val

/-- A value within 0..n-1 as a number of that range; any other value is NONE or OFF. -/
def toOption (n : Nat) (v : Int) : Option (Fin n) := if h : v.toNat < n then some ⟨v.toNat, h⟩ else none

/-- A value already judged to lie within 0..n-1. -/
def toFin (n : Nat) (v : Int) : Fin (n + 1) := ⟨min v.toNat n, Nat.lt_succ_of_le (Nat.min_le_right ..)⟩

/-- A leg as a value. -/
def ofLeg : Leg → Int
  | .zero => 0
  | .one => 1

/-- A value as a leg. -/
def toLeg (v : Int) : Leg := if v = 1 then .one else .zero

/-- An incomer group as a value: A 0, B 1. -/
def ofGroup : Group → Int
  | .a => 0
  | .b => 1

/-- A value as an incomer group. -/
def toGroup (v : Int) : Group := if v = 1 then .b else .a

/-- A gate role as a value (R189). -/
def ofRole : GateRole → Int
  | .plain => 0
  | .entry => 1
  | .exit0 => 2
  | .exit1 => 3
  | .unused => 4

/-- A value as a gate role. -/
def toRole (v : Int) : GateRole :=
  if v = 0 then .plain else if v = 1 then .entry else if v = 2 then .exit0 else if v = 3 then .exit1 else .unused

/-- A feeder list as a value: the count in the low byte, then the feeder numbers (R189). -/
def ofFeeders (l : List FeederNo) : Int :=
  match l with
  | [] => 0
  | [a] => 1 + 256 * a.val
  | a :: b :: _ => 2 + 256 * a.val + 65536 * b.val

/-- Byte `k` of a 4-byte value. -/
def byteOf (v : Int) (k : Nat) : Nat := ((BitVec.ofInt 32 v >>> (8 * k)).setWidth 8).toNat

/-- The first two feeder numbers a list value carries; bytes beyond the count are disregarded. -/
def feederBytes (v : Int) : List Nat := ([byteOf v 1, byteOf v 2]).take (byteOf v 0)

/-- A value as a feeder list. -/
def toFeeders (v : Int) : List FeederNo := (feederBytes v).map fun n => toFin 11 n

/-- A value lies in its field's range. -/
def FieldRange.holds (r : FieldRange) (v : Int) : Bool :=
  match r with
  | .between lo hi => decide (lo ≤ v ∧ v ≤ hi)
  | .orNone hi => decide (0 ≤ v ∧ v ≤ hi) || v == 255
  | .feeders => (feederBytes v).all fun n => decide (n ≤ 11)

/-- A value held at the bound it passes. -/
def FieldRange.clamp (r : FieldRange) (v : Int) : Int :=
  match r with
  | .between lo hi => max lo (min hi v)
  | .orNone _ => v
  | .feeders => v

/-! ## Records as lists of values -/

/-- The ZONE record's values. -/
def ZoneSet.values (r : ZoneSet) : List Int := [r.tDecay, r.tAttrib]

/-- A FEEDER record's values. -/
def FeederSet.values (r : FeederSet) : List Int :=
  [ofBool r.topo.enabled, ofOption r.topo.sec, ofGroup r.topo.group,
    r.iMax, r.rStart, r.rHold, r.deltaTrip, r.nDelta, r.tRiseMax, r.nMask, r.iRevMax, r.iCont, r.hTrip, r.hReclose,
    r.tOpenConf, r.tCloseConf, r.tDead, r.tReady, r.tReclaim, r.nReclose, r.nSettle]

/-- A SECTION record's values. -/
def SectionSet.values (r : SectionSet) : List Int := [ofFeeders r.feeders, r.gVeh, r.uBusMin, r.gFault, r.uLive, r.uDead]

/-- A GATE record's values. -/
def GateSet.values (r : GateSet) : List Int :=
  [ofRole r.topo.role, ofOption r.topo.src, ofOption r.topo.dst, r.tPole, r.tStuck]

/-- A POINT record's values. -/
def PointSet.values (r : PointSet) : List Int :=
  [ofBool r.topo.fitted, (r.topo.approach.val : Int), (r.topo.leg0.val : Int), (r.topo.leg1.val : Int),
    (r.topo.entry.val : Int), (r.topo.exit0.val : Int), (r.topo.exit1.val : Int),
    ofLeg r.defaultLeg, ofLeg r.powerLeg, ofBool r.currentOn, ofBool r.tagReader,
    r.tMove, r.tResv, r.tZone, r.tProve, r.tGrace, r.tQuiet]

/-- Value `n` (from 1) of a list of values. -/
def valueAt (l : List Int) (n : Nat) : Int := l.getD (n - 1) 0

/-- Value `n` as a count. -/
def natAt (l : List Int) (n : Nat) : Nat := (valueAt l n).toNat

/-- The ZONE record of a list of values. -/
def ZoneSet.ofValues (l : List Int) : ZoneSet := ⟨natAt l 1, natAt l 2⟩

/-- The FEEDER record of a list of values. -/
def FeederSet.ofValues (l : List Int) : FeederSet where
  topo := ⟨valueAt l 1 == 1, toOption 12 (valueAt l 2), toGroup (valueAt l 3)⟩
  iMax := natAt l 4
  rStart := natAt l 5
  rHold := natAt l 6
  deltaTrip := natAt l 7
  nDelta := natAt l 8
  tRiseMax := natAt l 9
  nMask := natAt l 10
  iRevMax := natAt l 11
  iCont := natAt l 12
  hTrip := natAt l 13
  hReclose := natAt l 14
  tOpenConf := natAt l 15
  tCloseConf := natAt l 16
  tDead := natAt l 17
  tReady := natAt l 18
  tReclaim := natAt l 19
  nReclose := natAt l 20
  nSettle := natAt l 21

/-- The SECTION record of a list of values. -/
def SectionSet.ofValues (l : List Int) : SectionSet where
  feeders := toFeeders (valueAt l 1)
  gVeh := natAt l 2
  uBusMin := natAt l 3
  gFault := natAt l 4
  uLive := natAt l 5
  uDead := natAt l 6

/-- The GATE record of a list of values. -/
def GateSet.ofValues (l : List Int) : GateSet where
  topo := ⟨toRole (valueAt l 1), toOption 32 (valueAt l 2), toOption 32 (valueAt l 3)⟩
  tPole := natAt l 4
  tStuck := natAt l 5

/-- The POINT record of a list of values. -/
def PointSet.ofValues (l : List Int) : PointSet where
  topo := ⟨valueAt l 1 == 1, toFin 31 (valueAt l 2), toFin 31 (valueAt l 3), toFin 31 (valueAt l 4), toFin 63 (valueAt l 5),
    toFin 63 (valueAt l 6), toFin 63 (valueAt l 7)⟩
  defaultLeg := toLeg (valueAt l 8)
  powerLeg := toLeg (valueAt l 9)
  currentOn := valueAt l 10 == 1
  tagReader := valueAt l 11 == 1
  tMove := natAt l 12
  tResv := natAt l 13
  tZone := natAt l 14
  tProve := natAt l 15
  tGrace := natAt l 16
  tQuiet := natAt l 17

/-- A record of a set of settings, as its values in field order (R168). -/
def Settings.values (w : Settings) : RecordId → List Int
  | .zone => w.zone.values
  | .feeder f => w.feeders[f].values
  | .sec c => w.sections[c].values
  | .segment g => [(w.segments[g].val : Int)]
  | .gate g => w.gates[g].values
  | .point p => w.points[p].values

/-- A set of settings with one record replaced whole (R169). -/
def Settings.put (w : Settings) (id : RecordId) (l : List Int) : Settings :=
  match id with
  | .zone => { w with zone := .ofValues l }
  | .feeder f => { w with feeders := w.feeders.set f (.ofValues l) }
  | .sec c => { w with sections := w.sections.set c (.ofValues l) }
  | .segment g => { w with segments := w.segments.set g (toFin 11 (valueAt l 1)) }
  | .gate g => { w with gates := w.gates.set g (.ofValues l) }
  | .point p => { w with points := w.points.set p (.ofValues l) }

/-! ## Merging and judging a write (R169) -/

/-- The record with the named fields replaced. -/
def merge (l : List Int) (entries : List FieldEntry) : List Int :=
  entries.foldl (fun l e => l.set (e.field.toNat - 1) e.value.toInt) l

/-- The first entry that names a field the record does not have, or one named before it; `seen` are the fields before it. -/
def strayEntry (count : Nat) : List Nat → List FieldEntry → Option Nat
  | _, [] => none
  | seen, e :: rest =>
    let n := e.field.toNat
    if n = 0 ∨ count < n ∨ n ∈ seen then some n else strayEntry count (n :: seen) rest

/-- A field's class, by number from 1. -/
def classAt (specs : List FieldSpec) (n : Nat) : Option FieldClass := specs[n - 1]?.map (·.cls)

/-- The first topology field named. -/
def topologyEntry (specs : List FieldSpec) (entries : List FieldEntry) : Option Nat :=
  (entries.find? fun e => classAt specs e.field.toNat == some .topology).map (·.field.toNat)

/-- The lowest-numbered field of the merged record, not a timer, that lies outside its range. -/
def rangeFailure (specs : List FieldSpec) (l : List Int) : Option Nat :=
  (List.range specs.length).findSome? fun i =>
    match specs[i]? with
    | none => none
    | some s => if s.cls != .timer && !s.range.holds (valueAt l (i + 1)) then some (i + 1) else none

/-- The cross-field checks of R169 in its order; the field of a failing check. -/
def crossFailure (w : Settings) (id : RecordId) (l : List Int) : Option Nat :=
  match id with
  | .feeder _ =>
    if valueAt l 5 < valueAt l 6 then some 6
    else if valueAt l 13 ≤ valueAt l 14 then some 14
    else if (w.floorCurrent : Int) < valueAt l 4 then some 4
    else if (w.floorReclose : Int) < valueAt l 20 then some 20
    else none
  | .sec _ =>
    if valueAt l 5 - 50 < valueAt l 6 then some 6
    else if 2 < byteOf (valueAt l 1) 0 ∨ (byteOf (valueAt l 1) 0 = 2 ∧ byteOf (valueAt l 1) 1 = byteOf (valueAt l 1) 2) then some 1
    else none
  | .zone | .segment _ | .gate _ | .point _ => none

/-- Every timer held within its range. -/
def clampTimers (specs : List FieldSpec) (l : List Int) : List Int :=
  List.zipWith (fun s v => if s.cls = .timer then s.range.clamp v else v) specs l

/-- What a write comes to. -/
inductive Verdict where
  | refused (result : Result) (detail : Detail)
  | accepted (record : List Int) (clamped : Bool)
  deriving DecidableEq, Repr

/-- R182 and R169: the detail of a refused write: the record and its first offending field. -/
def fieldDetail (a : WriteSettingsArgs) (field : Nat) : Detail := ⟨some a.kind.toNat, some a.index.toNat, some field⟩

/-- R169: judge a write against the working set, in the order of its table. -/
def judgeWrite (w : Settings) (mode : Mode) (storing : Bool) (id : RecordId) (a : WriteSettingsArgs) : Verdict :=
  let specs := id.specs
  if storing then .refused .busy .blank
  else match strayEntry specs.length [] a.entries with
    | some n => .refused .badValue (fieldDetail a n)
    | none =>
      match (if mode = .configure then none else topologyEntry specs a.entries) with
      | some n => .refused .mode (fieldDetail a n)
      | none =>
        let m := merge (w.values id) a.entries
        match (rangeFailure specs m).or (crossFailure w id m) with
        | some n => .refused .badValue (fieldDetail a n)
        | none =>
          let l := clampTimers specs m
          .accepted l (l != m)

end Sys2Proof.Machine
end

