-- ==== Sys2Proof/Machine/Reports.lean ====
section
/-! DEFINITION. What the READ requests report, each as it stands when the request is served (R49, R52, R90, R102, R122, R145, R157,
R184). -/

namespace Sys2Proof.Machine

/-! ## Feeders -/

/-- The expected cooling time in ms (R49): the ceiling of H less H_reclose over q_c squared, 0 at or below H_reclose. -/
def coolingTime (set : FeederSet) (heat : Nat) : Nat :=
  let q := set.iCont / 16
  if set.hReclose < heat then (heat - set.hReclose + q * q - 1) / (q * q) else 0

/-- The expiry of whichever timer a feeder is running (R52); at most one runs. -/
def Breaker.timer (b : Breaker) : Option Time :=
  b.openTimer.or (b.closeTimer.or (b.deadTimer.or (b.readyWait.or b.reclaim)))

namespace State

/-- What READ_FEEDER reports (R23, R49, R52, R66). Holds are those in force on a feeder in DEAD_TIME. -/
def feederReport (s : State) (f : FeederNo) : FeederReport where
  heat := (s.protection f).heat
  cooling := coolingTime (s.feederSet f) (s.protection f).heat
  rising := (s.protection f).window.rising
  runLength := (s.protection f).window.length
  overCount := (s.protection f).window.overs
  instRun := (s.protection f).inst.count
  reverseRun := (s.protection f).reverse.count
  mask := (s.protection f).mask
  shadow := (s.protection f).shadow
  state := (s.breaker f).state
  attempts := (s.breaker f).attempts
  limit := s.effectiveLimit f
  timer := (s.breaker f).timer.map (timeLeft s.now)
  test := (s.breaker f).test
  judged := (s.breaker f).judged
  lockout := if (s.breaker f).state = .lockedOut then s.lockout f else none
  holds := if (s.breaker f).state = .deadTime then s.holds f else []
  injection := s.injection f

/-! ## Sections -/

/-- What READ_SECTION reports (R90). -/
def sectionReport (s : State) (c : SectionNo) : SectionReport where
  live := (s.sec c).live
  voltage := (s.sec c).voltage
  liveCount := (s.sec c).liveCount
  deadCount := (s.sec c).deadCount
  backfeedCount := (s.sec c).backfeedCount
  fed := (s.sec c).fed
  underTest := s.underTest c
  backfeed := (s.sec c).backfeed
  supplyLost := (s.sec c).supplyLost
  locks := s.locks c
  feeders := s.topo.enabledFeeders c
  segments := s.topo.segmentsOf c
  breakGates := s.topo.breakGates c

/-! ## Segments and vehicles -/

/-- The gate reports of a segment: its used gates that lead from it (R102), in ascending gate number (assumption log 40). -/
def gateReports (s : State) (g : SegmentNo) : List GateReport :=
  ((List.finRange 64).filter fun h => s.topo.isUsed h && s.topo.gates[h].src == some g).map fun h =>
    ⟨h, s.topo.gates[h].role, s.gate h, s.topo.isBreak h⟩

/-- What READ_SEGMENT reports (R122). -/
def segmentReport (s : State) (g : SegmentNo) : SegmentReport where
  sec := s.topo.segments[g]
  queue := (s.queue g).map fun n => (s.candidate n, (s.vehicle n).bind (·.gate))
  untracked := s.untracked g
  point := (s.topo.pointOfApproach g).map fun p => (p, (s.point p).queue.length)
  gates := s.gateReports g

/-- A record's position in its segment queue, from 1 (R105). -/
def position (s : State) (n : SlotNo) (v : Vehicle) : Nat := (s.queue v.segment).idxOf n + 1

/-- What READ_VEHICLE reports: the record and its position, `none` for a free slot (R122). -/
def vehicleReport (s : State) (n : SlotNo) : Option (Vehicle × Nat) := (s.vehicle n).map fun v => (v, s.position n v)

/-- What FIND_VEHICLE reports (R122). -/
def findReport (s : State) (fleet : Nat) : Option (SlotNo × Vehicle × Nat) :=
  match s.holderOfFleet fleet with
  | none => none
  | some n => (s.vehicle n).map fun v => (n, v, s.position n v)

/-! ## Points -/

/-- A zone queue entry as READ_POINT reports it (R145). -/
def entryOf (s : State) (e : ZoneEntry) : EntryReport :=
  ⟨e, (s.vehicle e.slot).bind (·.fleet), e.overdue.map (timeLeft s.now)⟩

/-- What READ_POINT reports (R145, R157). -/
def pointReport (s : State) (p : PointNo) : PointReport where
  record := s.point p
  entries := (s.point p).queue.map s.entryOf
  reservations := (s.point p).reservations.map fun r => (r, timeLeft s.now r.expires)
  det0 := s.pins.det0[p]
  det1 := s.pins.det1[p]
  drive0 := s.drive p .zero
  drive1 := s.drive p .one
  lamp0 := (s.lamps p).1
  lamp1 := (s.lamps p).2.1
  lampX := (s.lamps p).2.2
  moveLeft := (s.point p).moveTimer.map (timeLeft s.now)
  age := age s.now (s.point p).proving.proofTime
  quietLeft := (s.point p).proving.quietTimer.map (timeLeft s.now)

/-! ## The part -/

/-- What IDENTIFY reports (R184). -/
def identity (s : State) : Identity where
  working := s.sst.workingGen
  stored := s.sst.storedWorkingGen
  topology := s.sst.topologyGen
  storedValid := s.sst.storedValid
  retentionValid := s.sst.retentionValid
  maint := s.pins.maint
  cause := s.sst.cause

/-- What STATUS reports (R184). -/
def statusReport (s : State) : StatusReport where
  mode := s.sst.mode
  storing := s.sst.job.isSome
  blind := s.scp.blind
  overflow := s.lnk.overflow
  latchA := s.bsq.latchA
  latchB := s.bsq.latchB
  queued := s.lnk.notices.length
  linkErrors := s.lnk.linkErrors
  overruns := s.lnk.overruns
  time := s.now

/-- What a MEASURE notice carries (R185): the latest measurement, and which feeders of the set are under injection in it. -/
def measureNotice (s : State) : NoticeBody :=
  .measure s.lnk.watchSet s.scp.latest
    (s.lnk.watchSet.filter fun f => match s.scp.latest with
      | some m => m.injected[f].isSome
      | none => (s.injection f).running)

end State

end Sys2Proof.Machine
end

