-- ==== Sys2Proof/Machine/ResetOps.lean ====
section
/-! DEFINITION. Resets (R13, R28, R50, R76, R77, R91, R100, R123, R146, R157, R176, R178, R179, R188) and the making active of a
new topology (R12, R51, R76, R91, R100, R123, R155). -/

namespace Sys2Proof.Machine

/-! ## Shared by both -/

/-- R76: the breaker state an enabled feeder takes from its inputs. -/
def foundState (aux : Bool) (lockout : Option LockoutCause) : BState :=
  if aux then .closed else if lockout.isSome then .lockedOut else .opened

namespace State

/-- R76: the state a feeder is found in; a disabled feeder is OPEN (R52). -/
def found (s : State) (f : FeederNo) : BState :=
  if s.topo.feeders[f].enabled then foundState (s.aux f) (s.lockout f) else .opened

/-- R50, R51: the protection record a feeder starts with. -/
def startProtection (s : State) (f : FeederNo) : Protection :=
  .start (s.feederSet f).hReclose (if s.found f = .closed then (s.feederSet f).nMask else 0)

/-- R76: the lockout a feeder keeps: one found closed has none. -/
def keptLockout (s : State) (f : FeederNo) : Option LockoutCause := if s.found f = .closed then none else s.lockout f

/-! ## Resets -/

/-- R179: the link rate the straps select. -/
def rateOf (rate0 rate1 : Bool) : Rate :=
  match rate0, rate1 with
  | false, false => .baud57600
  | true, false => .baud115200
  | false, true => .baud230400
  | true, true => .baud460800

/-- The Link Controller right after a reset, before the RESET notice is raised (R188). -/
def blankLink (rate : Rate) : Lnk where
  rate := rate
  rx := []
  requests := []
  replySlot := none
  notices := []
  overflow := false
  eventEnabled := true
  infoEnabled := true
  watchSet := []
  watchPeriod := 0
  watchTimer := none
  linkErrors := 0
  overruns := 0
  transmitting := none
  restart := .none

/-- R13, R178: the Settings Store after a reset. -/
def resetStore (t : Sst) (cause : ResetCause) (kept : Bool) : Sst :=
  let good := t.storedValid && (t.stored.topology.firstFailure).isNone
  { t with
    job := none
    working := if t.storedValid then t.stored else .factory
    active := if good then t.stored.topology else .factory
    workingGen := if t.storedValid then t.storedWorkingGen else 0
    topologyGen := if t.storedValid then t.storedTopologyGen else 0
    notedGen := if t.storedValid then t.storedTopologyGen else 0
    mode := if good then .run else .configure
    cause := cause
    retentionValid := kept }

/-- The record of a point at a reset (R146, R157). -/
def resetPoint (s : State) (p : PointNo) : PointRec :=
  if s.fitted p then s.restPoint p { PointRec.unfitted with proving := .start s.now, cadence := s.now } else .unfitted

/-- Every block but LNK and SST in its reset state, under the working set and active topology already taken. -/
def resetBlocks (s : State) : State :=
  { s with
    ret := { s.ret with lockouts := Vector.ofFn s.keptLockout }
    scp := .reset
    fpu := Vector.ofFn s.startProtection
    bsq := ⟨Vector.ofFn fun f => .rest (s.found f) none, false, false⟩
    sem := Vector.ofFn fun c => .start ((s.topo.enabledFeeders c).any fun f => s.found f == .closed)
    gsc := Vector.ofFn fun g => s.startGate (s.topo.isUsed g) g
    vtr := .empty
    ptc := ⟨[], Vector.ofFn s.resetPoint⟩ }

/-- R146: a POINT_FAILED notice for each point found FAILED; it names no leg (assumption log 36). -/
def reportFailed (s : State) : State :=
  (List.finRange 16).foldl
    (fun s p =>
      if s.fitted p && (s.point p).state == .failed then
        s.raise (.pointFailed p .detection none s.pins.det0[p] s.pins.det1[p])
      else s) s

/-- A reset (R178). `kept` is whether the retained area passes its check and its backup supply held (R176). -/
def doReset (s : State) (cause : ResetCause) (kept rate0 rate1 : Bool) : State :=
  let s1 : State :=
    { s with
      now := 0
      powered := true
      pins := { s.pins with rate0 := rate0, rate1 := rate1 }
      lnk := blankLink (rateOf rate0 rate1)
      sst := resetStore s.sst cause kept
      ret := if kept then s.ret else .rewritten }
  let s2 := s1.resetBlocks
  ((s2.raise (.reset cause kept s2.sst.storedValid s2.sst.mode 0)).reportFailed).takeUp

/-! ## A new topology (R12) -/

/-- R12: feeders that become enabled or disabled. A feeder found LOCKED_OUT by its retained lockout does not enter LOCKED_OUT in the
sense of R63: a follower whose dead time runs on is locked out only once it is expired (assumption log 32). -/
def activateFeeder (old : Topology) (s : State) (f : FeederNo) : State :=
  match old.feeders[f].enabled, s.topo.feeders[f].enabled with
  | false, true =>
    ((s.setBreaker f (.rest (s.found f) (s.breaker f).judged)).setProtection f (s.startProtection f)).setLockout f (s.keptLockout f)
  | true, false => (s.endInjection f).setBreaker f (.rest .opened (s.breaker f).judged)
  | _, _ => s

/-- R12, R91: a section under the new topology. The SECTION_STATE of one that becomes unfed carries the zone time of the event and
the voltage 0 (assumption log 31). -/
def activateSection (s : State) (c : SectionNo) : State :=
  if (s.topo.enabledFeeders c).isEmpty then
    let r := s.sec c
    let s1 := s.setSec c { SectionRec.start false with backfeed := r.backfeed, supplyLost := r.supplyLost }
    let s2 := if r.live then s1.raiseSectionState c s.now else s1
    (s2.clearBackfeed c false).clearSupplyLost c false
  else s.refreshFed c

/-- A gate has a passage in flight (R100): engaged, and not settling. -/
def inFlight (r : GateRec) : Bool := r.state != .armed && !r.settling

/-- R12, R100: a changed gate. Its stuck mark is cleared with the notice whether it was in passage or settling, and even when it
settles again (assumption log 33). -/
def activateGate (old : Topology) (s : State) (g : GateNo) : State :=
  if old.gates[g] = s.topo.gates[g] then s
  else
    let s1 := if inFlight (s.gate g) then s.releaseGate g else s
    let s2 := s1.clearStuck g
    s2.setGate g (s2.startGate (s2.topo.isUsed g) g)

/-- R12, R146, R157: a point that becomes unfitted, or a changed point. -/
def activatePoint (old : Topology) (s : State) (p : PointNo) : State :=
  if !s.fitted p then (if old.points[p].fitted then s.setPoint p .unfitted else s)
  else if old.points[p] = s.topo.points[p] then s
  else
    let base := if old.points[p].fitted then s.point p else .unfitted
    s.setPoint p (s.restPoint p { base with proving := .start s.now })

/-- R12: a fitted point when the tracking is cleared. -/
def clearPoint (s : State) (p : PointNo) : State :=
  if s.fitted p then
    let r := s.point p
    if r.state = .outOfService then s.setPoint p { r with queue := [], reservations := [], confirmed := false }
    else s.setPoint p (s.restPoint p r)
  else s

/-- R12: the tracking is cleared. -/
def clearTracking (s : State) : State :=
  (List.finRange 16).foldl clearPoint { s with vtr := .empty }

/-- R12: the tracking is to be cleared: the topology generation has moved, or the old active topology was the factory one. -/
def tracksStale (s : State) : Bool := s.sst.topologyGen != s.sst.notedGen || s.sst.active == .factory

/-- R12: the working topology is made active, block by block. -/
def activate (s : State) : State :=
  let old := s.topo
  let s1 : State := { s with sst := { s.sst with active := s.sst.working.topology } }
  let s2 := (List.finRange 12).foldl (activateFeeder old) s1
  let s3 := (List.finRange 12).foldl activateSection s2
  let s4 := (List.finRange 64).foldl (activateGate old) s3
  let s5 := (List.finRange 16).foldl (activatePoint old) s4
  if s.tracksStale then s5.clearTracking else s5

/-- R11: the lowest feeder whose enabled, section or group field differs while it is enabled and its breaker not at rest. -/
def feederConflict (s : State) : Option FeederNo :=
  (List.finRange 12).find? fun f =>
    s.sst.working.feeders[f].topo != s.topo.feeders[f] && s.topo.feeders[f].enabled &&
      !((s.breaker f).state == .opened || (s.breaker f).state == .lockedOut || (s.breaker f).state == .stuck)

end State

end Sys2Proof.Machine
end

