-- ==== Sys2Proof/Machine/Requests.lean ====
section
/-! DEFINITION. The dispatch of a request and its reply (R177, R182, R183), shared by every request. -/

namespace Sys2Proof.Machine

/-- What the owner of a request answers: a result with its data; `restarts` only for RESTART. -/
structure Answer where
  result : Result
  data : ReplyData
  restarts : Bool
  deriving DecidableEq, Repr

/-- OK with data. -/
def Answer.ok (data : ReplyData) : Answer := ⟨.ok, data, false⟩

/-- A refusal that names nothing: its detail is 0xFF throughout (R182). -/
def Answer.refuse (r : Result) : Answer := ⟨r, .detail .blank, false⟩

/-- A refusal that names a record, a feeder or a field. -/
def Answer.refuseAt (r : Result) (d : Detail) : Answer := ⟨r, .detail d, false⟩

/-- BAD_LENGTH and BAD_KIND carry no data (R182). -/
def Answer.bare (r : Result) : Answer := ⟨r, .none, false⟩

namespace State

/-- R182: a request can be dispatched when the reply slot is empty, no RESTART has been accepted, and it is the oldest queued
request, or the queue is empty and it comes straight to its dispatch (assumption log 11). -/
def mayDispatch (s : State) (i : Instr) : Bool :=
  s.lnk.replySlot.isNone && s.lnk.restart == .none &&
    match s.lnk.requests with
    | [] => true
    | payload :: _ => requestOf s.pins.maint payload == some i

/-- R182: dispatch removes the request from the queue. -/
def dequeue (s : State) : State := { s with lnk := { s.lnk with requests := s.lnk.requests.tail } }

/-- R182: the reply goes into the reply slot. -/
def reply (s : State) (kind tag : Byte) (a : Answer) : State :=
  { s with lnk := { s.lnk with replySlot := some ⟨kind, tag, a.result, a.data, a.restarts⟩ } }

/-- R182: dispatch a request and serve it whole, as one event: BAD_LENGTH when its arguments are wrong, otherwise what its owner
answers. A request that cannot be dispatched now changes nothing. -/
def request {α : Type} (s : State) (i : Instr) (kind tag : Byte) (args : Args α) (serve : State → α → Answer × State) : State :=
  s.ifPowered fun s =>
    if s.mayDispatch i then
      let served : Answer × State := match args with
        | none => (.bare .badLength, s.dequeue)
        | some a => serve s.dequeue a
      (served.2.reply kind tag served.1).transmit
    else s

/-- The MAINT strap as the outside holds it, read when IDENTIFY and SET_FLOOR are served (R172, R184). -/
def withMaint (s : State) (maint : Bool) : State := { s with pins := { s.pins with maint := maint } }

end State

end Sys2Proof.Machine
end

