-- ==== Sys2Proof/Machine/Feeders.lean ====
section
/-! DEFINITION. The feeder requests (R49, R52, R58, R72–R75) and INJECT (R23–R25, R46, R48). -/

namespace Sys2Proof.Machine

namespace State

/-- A request that names a feeder: a number above 11 is refused with BAD_INDEX. -/
def withFeeder (s : State) (b : Byte) (serve : State → FeederNo → Answer × State) : Answer × State :=
  match indexOf 12 b with
  | none => (.refuse .badIndex, s)
  | some f => serve s f

/-- The feeder is enabled in the active topology. -/
def enabled (s : State) (f : FeederNo) : Bool := s.topo.feeders[f].enabled

/-- R49, R52: READ_FEEDER. -/
def serveReadFeeder (s : State) (f : FeederNo) : Answer × State := (.ok (.feeder (s.feederReport f)), s)

/-- R75: READ_TRIP_RECORD. -/
def serveReadTrip (s : State) (f : FeederNo) : Answer × State := (.ok (.trip (s.trip f) (s.tripCount f)), s)

/-- R75: CLEAR_TRIP_RECORD. -/
def serveClearTrip (s : State) (f : FeederNo) : Answer × State := (.ok .none, s.setTrip f none 0)

/-- R72: FEEDER_CLOSE. -/
def serveClose (s : State) (f : FeederNo) : Answer × State :=
  if !s.enabled f || (s.breaker f).state != .opened || !s.ready f then (.refuse .state, s)
  else if s.sst.mode != .run then (.refuse .mode, s)
  else if s.scp.blind then (.refuse .blind, s)
  else if s.feederLocked f then (.refuse .locked, s)
  else if s.hot f then (.refuse .thermal, s)
  else if (s.injection f).running then (.refuse .injecting, s)
  else (.ok .none, (s.toTesting f false).takeUp)

/-- R73: a feeder enters OPENING by the host; its sequence ends, and an AUX already open confirms at once (R56). -/
def hostOpen (s : State) (f : FeederNo) : State :=
  let s1 := s.putBreaker f
    { Breaker.rest .opening (s.breaker f).judged with openTimer := some (later s.now (s.feederSet f).tOpenConf) }
  if s1.aux f then s1 else s1.confirmOpen f

/-- R73: FEEDER_OPEN. -/
def serveOpen (s : State) (f : FeederNo) : Answer × State :=
  if !s.enabled f then (.refuse .state, s)
  else match (s.breaker f).state with
    | .closed | .closing => (.ok .none, (s.hostOpen f).takeUp)
    | .opening => (.ok .none, s.setBreaker f { s.breaker f with cause := .hostOpen })
    | .deadTime | .testing => (.ok .none, (s.toOpen f).takeUp)
    | .opened | .lockedOut => (.ok .none, s)
    | .stuck => (.refuse .state, s)

/-- R74: FEEDER_RESET. -/
def serveReset (s : State) (f : FeederNo) : Answer × State :=
  if !s.enabled f then (.refuse .state, s)
  else match (s.breaker f).state with
    | .lockedOut => (.ok .none, ((s.toOpen f).setLockout f none).takeUp)
    | .stuck => if s.aux f then (.refuse .state, s) else (.ok .none, (s.toOpen f).takeUp)
    | .opened | .closing | .closed | .opening | .deadTime | .testing => (.refuse .state, s)

/-- R58: the group an INCOMER_RESET names. -/
def groupOf (b : Byte) : Option Group := if b = 0 then some .a else if b = 1 then some .b else none

/-- R58: a feeder of the group is STUCK with AUX showing closed. -/
def groupStuck (s : State) (g : Group) : Bool :=
  (List.finRange 12).any fun f =>
    s.enabled f && s.topo.feeders[f].group == g && (s.breaker f).state == .stuck && s.aux f

/-- A group's latch, set or cleared (R57, R58). -/
def setLatch (s : State) (g : Group) (on : Bool) : State :=
  match g with
  | .a => { s with bsq := { s.bsq with latchA := on } }
  | .b => { s with bsq := { s.bsq with latchB := on } }

/-- R58: INCOMER_RESET. -/
def serveIncomer (s : State) (b : Byte) : Answer × State :=
  match groupOf b with
  | none => (.refuse .badIndex, s)
  | some g => if s.groupStuck g then (.refuse .state, s) else (.ok .none, s.setLatch g false)

/-! ### INJECT -/

/-- R24, R25: the pattern a request's parameters give; `none` is BAD_VALUE. A RAMP has no step scan; it holds 0 (assumption log 29). -/
def patternOf (a : InjectArgs) : Option Injection :=
  let base := a.base.toInt
  let arg := a.levelOrSlope.toInt
  let length := a.length.toNat
  let inAmps (v : Int) : Bool := decide (-6000 ≤ v ∧ v ≤ 6000)
  if !inAmps base || length = 0 || 60000 < length then none
  else if a.pattern = 1 then
    if inAmps arg && decide (a.stepScan.toNat < length) then some ⟨.step, base, arg, length, a.stepScan.toNat, 0, none⟩ else none
  else if -2000 ≤ arg ∧ arg ≤ 2000 then some ⟨.ramp, base, arg, length, 0, 0, none⟩
  else none

/-- R23: the feeder may be put under injection: OPEN or LOCKED_OUT with AUX open. -/
def mayInject (s : State) (f : FeederNo) : Bool :=
  s.enabled f && ((s.breaker f).state == .opened || (s.breaker f).state == .lockedOut) && !s.aux f

/-- R23, R46, R48: a pattern starts at position 0 and its shadow content at 0. -/
def startInjection (s : State) (f : FeederNo) (j : Injection) : State :=
  (s.setInjection f j).setProtection f ((s.protection f).turn (some 0))

/-- R23: INJECT, the feeder named. A pattern above RAMP is no enumerated value and is refused first (R189). -/
def serveInjectFeeder (a : InjectArgs) (s : State) (f : FeederNo) : Answer × State :=
  if 2 < a.pattern.toNat then (.refuse .badValue, s)
  else if a.pattern = 0 then (.ok .none, s.endInjection f)
  else if !s.mayInject f then (.refuse .state, s)
  else if s.scp.blind then (.refuse .blind, s)
  else match patternOf a with
    | none => (.refuse .badValue, s)
    | some j => (.ok .none, s.startInjection f j)

end State

/-! ## The commands -/

/-- READ_FEEDER (R49, R52). -/
def execReadFeeder (tag : Byte) (feeder : Args Byte) (s : State) : Host.Outcome State Fault Refusal :=
  .next (s.request (.readFeeder tag feeder) 0x03 tag feeder fun s b => s.withFeeder b State.serveReadFeeder)

/-- READ_TRIP_RECORD (R75). -/
def execReadTripRecord (tag : Byte) (feeder : Args Byte) (s : State) : Host.Outcome State Fault Refusal :=
  .next (s.request (.readTripRecord tag feeder) 0x04 tag feeder fun s b => s.withFeeder b State.serveReadTrip)

/-- CLEAR_TRIP_RECORD (R75). -/
def execClearTripRecord (tag : Byte) (feeder : Args Byte) (s : State) : Host.Outcome State Fault Refusal :=
  .next (s.request (.clearTripRecord tag feeder) 0x05 tag feeder fun s b => s.withFeeder b State.serveClearTrip)

/-- FEEDER_CLOSE (R72). -/
def execFeederClose (tag : Byte) (feeder : Args Byte) (s : State) : Host.Outcome State Fault Refusal :=
  .next (s.request (.feederClose tag feeder) 0x10 tag feeder fun s b => s.withFeeder b State.serveClose)

/-- FEEDER_OPEN (R73). -/
def execFeederOpen (tag : Byte) (feeder : Args Byte) (s : State) : Host.Outcome State Fault Refusal :=
  .next (s.request (.feederOpen tag feeder) 0x11 tag feeder fun s b => s.withFeeder b State.serveOpen)

/-- FEEDER_RESET (R74). -/
def execFeederReset (tag : Byte) (feeder : Args Byte) (s : State) : Host.Outcome State Fault Refusal :=
  .next (s.request (.feederReset tag feeder) 0x12 tag feeder fun s b => s.withFeeder b State.serveReset)

/-- INCOMER_RESET (R58). -/
def execIncomerReset (tag : Byte) (group : Args Byte) (s : State) : Host.Outcome State Fault Refusal :=
  .next (s.request (.incomerReset tag group) 0x13 tag group State.serveIncomer)

/-- INJECT (R23). -/
def execInject (tag : Byte) (args : Args InjectArgs) (s : State) : Host.Outcome State Fault Refusal :=
  .next (s.request (.inject tag args) 0x1E tag args fun s a => s.withFeeder a.feeder (State.serveInjectFeeder a))

end Sys2Proof.Machine
end

