-- ==== Sys2Proof/Machine/BreakerEvents.lean ====
section
/-! DEFINITION. The breaker events: AUX and READY (R55, R56, R62, R69, R71), and the timers of a feeder (R57, R62, R69, R70). -/

namespace Sys2Proof.Machine

namespace State

/-- A feeder's AUX input takes a level. -/
def setAux (s : State) (f : FeederNo) (closed : Bool) : State :=
  { s with pins := { s.pins with aux := s.pins.aux.set f closed } }

/-- A feeder's READY input takes a level. -/
def setReady (s : State) (f : FeederNo) (present : Bool) : State :=
  { s with pins := { s.pins with ready := s.pins.ready.set f present } }

/-- The feeder's current in the latest measurement, 0 A before the first (R28, R55). -/
def latestCurrent (s : State) (f : FeederNo) : Sample :=
  match s.scp.latest with
  | none => s.scp.last.current[f]
  | some m => m.current[f]

/-- R55: the decision of an external trip. -/
def externalTrip (s : State) (f : FeederNo) : Decision :=
  ⟨.external, s.now, (s.latestCurrent f).amps.natAbs, (s.latestCurrent f).sat, none, (s.protection f).heat⟩

/-- R55, R56: AUX shows open. -/
def auxOpen (s : State) (f : FeederNo) : State :=
  if !s.enabled f then s
  else match (s.breaker f).state with
    | .closed => (s.takeTrip f (s.externalTrip f)).takeUp
    | .opening => (s.confirmOpen f).takeUp
    | .opened | .closing | .deadTime | .testing | .lockedOut | .stuck => s

/-- R27, R69, R71: AUX shows closed. -/
def auxClose (s : State) (f : FeederNo) : State :=
  if !s.enabled f then s
  else
    let s1 := s.endInjection f
    match (s1.breaker f).state with
    | .closing => (s1.confirmClose f).takeUp
    | .opened | .deadTime | .testing | .lockedOut => (s1.uncommandedClose f).takeUp
    | .closed | .opening | .stuck => s1.takeUp

/-- R62: READY changes; the ready wait of an expired feeder starts or stops. -/
def readyMoved (s : State) (f : FeederNo) (was : Bool) : State :=
  if s.enabled f && was != s.ready f then
    (if (s.breaker f).state == .deadTime && (s.breaker f).expired then s.expire f else s).takeUp
  else s

/-- R57, R75: the trip of cause STUCK: it takes the peak, Δ and attribution of the trip that began the opening, or none where
the opening was a host open. An opening that a trip began and FEEDER_OPEN made a host open has none (assumption log 21). -/
def stuckTrip (s : State) (f : FeederNo) : TripRecord :=
  let b := s.breaker f
  let plain : TripRecord := ⟨.stuck, s.now, none, false, none, (s.protection f).heat, b.attempts, [], 0, none⟩
  match b.cause, b.begun with
  | .trip _, some r =>
    { plain with peak := r.peak, sat := r.sat, delta := r.delta, candidates := r.candidates, total := r.total, suspect := r.suspect }
  | _, _ => plain

/-- R57: a breaker has failed to open. -/
def stick (s : State) (f : FeederNo) : State :=
  let b := s.breaker f
  let g := s.topo.feeders[f].group
  let s1 := ((s.putBreaker f (.rest .stuck b.judged)).setLatch g true).raise (.breakerFail f g b.cause)
  (s1.offerTrip f (s.stuckTrip f) false).2

/-- R57: the open-confirmation timer expires in OPENING with AUX still closed. -/
def openExpire (s : State) (f : FeederNo) : State :=
  if s.enabled f && (s.breaker f).state == .opening && isDue s.now (s.breaker f).openTimer && s.aux f then (s.stick f).takeUp
  else s

/-- R69: the close-confirmation timer expires in CLOSING with AUX still open. -/
def closeExpire (s : State) (f : FeederNo) : State :=
  if s.enabled f && (s.breaker f).state == .closing && isDue s.now (s.breaker f).closeTimer && !s.aux f then
    (s.lockOut f .noClose).takeUp
  else s

/-- R62: the dead timer expires. -/
def deadExpire (s : State) (f : FeederNo) : State :=
  if s.enabled f && (s.breaker f).state == .deadTime && isDue s.now (s.breaker f).deadTimer then (s.expire f).takeUp else s

/-- R62, R63: the last hold of an expired feeder is lifted. -/
def holdsClear (s : State) (f : FeederNo) : State :=
  if s.enabled f && (s.breaker f).state == .deadTime && (s.breaker f).expired && (s.holds f).isEmpty then
    (s.takeUpFeeder f).takeUp
  else s

/-- R62: the ready wait runs out. -/
def readyExpire (s : State) (f : FeederNo) : State :=
  if s.enabled f && (s.breaker f).state == .deadTime && isDue s.now (s.breaker f).readyWait then (s.lockOut f .notReady).takeUp
  else s

/-- R70: the reclaim timer expires: the sequence ends. -/
def reclaimExpire (s : State) (f : FeederNo) : State :=
  if s.enabled f && (s.breaker f).state == .closed && isDue s.now (s.breaker f).reclaim then
    s.setBreaker f (.rest .closed (s.breaker f).judged)
  else s

end State

/-! ## The commands -/

/-- AUX_OPENED (R55, R56). -/
def execAuxOpened (feeder : FeederNo) (s : State) : Host.Outcome State Fault Refusal :=
  .next ((s.setAux feeder false).event fun s => s.auxOpen feeder)

/-- AUX_CLOSED (R27, R69, R71). -/
def execAuxClosed (feeder : FeederNo) (s : State) : Host.Outcome State Fault Refusal :=
  .next ((s.setAux feeder true).event fun s => s.auxClose feeder)

/-- READY_CHANGE (R62). -/
def execReadyChange (feeder : FeederNo) (present : Bool) (s : State) : Host.Outcome State Fault Refusal :=
  .next ((s.setReady feeder present).event fun t => t.readyMoved feeder (s.ready feeder))

/-- OPEN_CONFIRM_EXPIRY (R57). -/
def execOpenConfirmExpiry (feeder : FeederNo) (s : State) : Host.Outcome State Fault Refusal :=
  .next (s.event fun s => s.openExpire feeder)

/-- CLOSE_CONFIRM_EXPIRY (R69). -/
def execCloseConfirmExpiry (feeder : FeederNo) (s : State) : Host.Outcome State Fault Refusal :=
  .next (s.event fun s => s.closeExpire feeder)

/-- DEAD_TIMER_EXPIRY (R62). -/
def execDeadTimerExpiry (feeder : FeederNo) (s : State) : Host.Outcome State Fault Refusal :=
  .next (s.event fun s => s.deadExpire feeder)

/-- DEAD_TIME_HOLDS_CLEAR (R62, R63). -/
def execDeadTimeHoldsClear (feeder : FeederNo) (s : State) : Host.Outcome State Fault Refusal :=
  .next (s.event fun s => s.holdsClear feeder)

/-- READY_WAIT_EXPIRY (R62). -/
def execReadyWaitExpiry (feeder : FeederNo) (s : State) : Host.Outcome State Fault Refusal :=
  .next (s.event fun s => s.readyExpire feeder)

/-- RECLAIM_TIMER_EXPIRY (R70). -/
def execReclaimTimerExpiry (feeder : FeederNo) (s : State) : Host.Outcome State Fault Refusal :=
  .next (s.event fun s => s.reclaimExpire feeder)

end Sys2Proof.Machine
end

