-- ==== Sys2Proof/Machine/Gates.lean ====
section
/-! DEFINITION. The gate events: a contact or current-flag input changes, its change is accepted (R92), and the pole and stuck timers
expire (R97, R99). -/

namespace Sys2Proof.Machine

namespace State

/-- A gate's input takes a level. -/
def setGateInput (s : State) (g : GateNo) (i : GateInput) (active : Bool) : State :=
  match i with
  | .positive => { s with pins := { s.pins with positive := s.pins.positive.set g active } }
  | .negative => { s with pins := { s.pins with negative := s.pins.negative.set g active } }
  | .currentFlag => { s with pins := { s.pins with currentFlag := s.pins.currentFlag.set g active } }

/-- The level of a contact's input. -/
def contactInput (s : State) (g : GateNo) (c : Contact) : Bool :=
  match c with
  | .positive => s.pins.positive[g]
  | .negative => s.pins.negative[g]

/-- A contact's accepted level. -/
def acceptedLevel (s : State) (g : GateNo) (c : Contact) : Bool :=
  match c with
  | .positive => (s.gate g).posLevel
  | .negative => (s.gate g).negLevel

/-- A contact's stability wait. -/
def stability (s : State) (g : GateNo) (c : Contact) : Option Time :=
  match c with
  | .positive => (s.gate g).posWait
  | .negative => (s.gate g).negWait

/-- A contact's stability wait starts or stops. -/
def setStability (s : State) (g : GateNo) (c : Contact) (t : Option Time) : State :=
  match c with
  | .positive => s.setGate g { s.gate g with posWait := t }
  | .negative => s.setGate g { s.gate g with negWait := t }

/-- A contact's accepted level takes its input's level, and the wait stops. -/
def acceptLevel (s : State) (g : GateNo) (c : Contact) (active : Bool) : State :=
  match c with
  | .positive => s.setGate g { s.gate g with posLevel := active, posWait := none }
  | .negative => s.setGate g { s.gate g with negLevel := active, negWait := none }

/-- R92: a contact's input has changed: the stability wait starts again, or stops when the input is back at the accepted level. -/
def contactMoved (s : State) (g : GateNo) (c : Contact) (active : Bool) : State :=
  if active = s.acceptedLevel g c then s.setStability g c none else s.setStability g c (some (later s.now 5))

/-- R92: an input of a gate changes; the current flag is not debounced, and a level already held is no change. -/
def inputChanged (s : State) (g : GateNo) (i : GateInput) (was active : Bool) : State :=
  if was = active then s
  else match i with
    | .positive => s.contactMoved g .positive active
    | .negative => s.contactMoved g .negative active
    | .currentFlag => s

/-- The level a gate's input has. -/
def gateInput (s : State) (g : GateNo) (i : GateInput) : Bool :=
  match i with
  | .positive => s.pins.positive[g]
  | .negative => s.pins.negative[g]
  | .currentFlag => s.pins.currentFlag[g]

/-- R92: a stability wait expires with the input at the new level: the change is accepted, and a used gate takes it as its
event. -/
def acceptContact (s : State) (g : GateNo) (c : Contact) : State :=
  let active := s.contactInput g c
  if isDue s.now (s.stability g c) && active != s.acceptedLevel g c then
    let s1 := s.acceptLevel g c active
    if s.topo.isUsed g then (s1.contactEvent g c active).takeUp else s1
  else s

/-- R97: the pole timer of a used gate expires in ENGAGED with only one contact seen. -/
def poleExpire (s : State) (g : GateNo) : State :=
  let r := s.gate g
  if s.topo.isUsed g && r.state == .engaged && !r.settling && isDue s.now r.poleTimer && r.posSeen != r.negSeen then
    (s.missPole g).takeUp
  else s

/-- R99: the stuck timer expires with the gate engaged: the stuck mark is set and GATE_STUCK raised. -/
def stuckExpire (s : State) (g : GateNo) : State :=
  let r := s.gate g
  if s.topo.isUsed g && r.state != .armed && isDue s.now r.stuckTimer then
    (s.setGate g { r with stuck := true, stuckTimer := none }).raise
      (.gateStuck g s.topo.gates[g].role r.engagedAt r.posSeen r.negSeen r.posLevel r.negLevel r.missing r.settling)
  else s

end State

/-! ## The commands -/

/-- CONTACT_INPUT_CHANGE (R92). -/
def execContactInputChange (gate : GateNo) (input : GateInput) (active : Bool) (s : State) : Host.Outcome State Fault Refusal :=
  .next ((s.setGateInput gate input active).event fun t => t.inputChanged gate input (s.gateInput gate input) active)

/-- CONTACT_ACCEPTED (R92, R94–R98, R100). -/
def execContactAccepted (gate : GateNo) (contact : Contact) (s : State) : Host.Outcome State Fault Refusal :=
  .next (s.event fun s => s.acceptContact gate contact)

/-- POLE_TIMER_EXPIRY (R97, R98). -/
def execPoleTimerExpiry (gate : GateNo) (s : State) : Host.Outcome State Fault Refusal :=
  .next (s.event fun s => s.poleExpire gate)

/-- STUCK_TIMER_EXPIRY (R99). -/
def execStuckTimerExpiry (gate : GateNo) (s : State) : Host.Outcome State Fault Refusal :=
  .next (s.event fun s => s.stuckExpire gate)

end Sys2Proof.Machine
end

