-- ==== Sys2Proof/Machine/Message.lean ====
section
/-! DEFINITION. The bytes of an outgoing message (R180, R182, R186, R187, R189). Where R189 gives no encoding, for an absent field
wider than a byte and for a count or conductance that does not fit its bytes, the byte is a free value (assumption log 4). What R189 leaves to be
read out of the rules (how marks group, the numbering of causes) is assumption log 10. -/

namespace Sys2Proof.Machine

namespace Enc

/-! ## Field encodings -/

/-- A byte that R189 gives no value. -/
def free (what i : Nat) : Byte := Config.unstatedByte what i

/-- A one-byte value: a count, an index, an enumerated value. -/
def one (n : Nat) : List Byte := [BitVec.ofNat 8 n]

/-- A count in one byte; a count that does not fit is a free value. -/
def count (n : Nat) : List Byte := if n < 256 then one n else [free 0 n]

/-- A two-byte value, low byte first. -/
def two (n : Nat) : List Byte := [BitVec.ofNat 8 n, BitVec.ofNat 8 (n / 256)]

/-- A conductance in two bytes; a correction C that does not fit is a free value (R66, R189; assumption log 4). -/
def conductance (n : Nat) : List Byte := if n < 65536 then two n else [free 16 n, free 17 n]

/-- A signed two-byte value. -/
def signed (v : Int) : List Byte := two (BitVec.ofInt 16 v).toNat

/-- A four-byte value, low byte first. -/
def four (n : Nat) : List Byte := two n ++ two (n / 65536)

/-- A zone time. -/
def time (t : Time) : List Byte := four t.toNat

/-- A flag as 1 or 0. -/
def bit (b : Bool) : Nat := if b then 1 else 0

/-- Marks and flags in one byte, the first-named in the lowest bit. -/
def flags (l : List Bool) : List Byte := one (l.foldr (fun b n => bit b + 2 * n) 0)

/-- An absent one-byte value. -/
def absent : List Byte := [0xFF#8]

/-- An absent value of `n` bytes, which R189 leaves open. -/
def unstated (what n : Nat) : List Byte := (List.range n).map (free what)

/-- An index that may be absent. -/
def index {n : Nat} (o : Option (Fin n)) : List Byte :=
  match o with
  | none => absent
  | some i => one i.val

/-- A fleet number: 0 is anonymous. -/
def fleet (o : Option Nat) : List Byte := two (o.getD 0)

/-- A slot and a fleet number. -/
def candidate (c : Candidate) : List Byte := one c.slot.val ++ fleet c.fleet

/-- A slot and a fleet number, or none. -/
def candidate? (o : Option Candidate) : List Byte :=
  match o with
  | none => absent ++ unstated 1 2
  | some c => candidate c

/-- A list: a count byte, then the entries. -/
def list {α : Type} (f : α → List Byte) (l : List α) : List Byte := count l.length ++ l.flatMap f

/-- An increment that may be absent: 0x8000. -/
def delta (o : Option Int) : List Byte :=
  match o with
  | none => two 0x8000
  | some v => signed v

/-- A value of four bytes that may be absent. -/
def four? (what : Nat) (o : Option Nat) : List Byte :=
  match o with
  | none => unstated what 4
  | some n => four n

/-! ## Enumerated values, numbered in the order of the tables that define them -/

/-- RUN 0, DRAINING 1, CONFIGURE 2 (R173). -/
def mode : Mode → Nat
  | .run => 0
  | .draining => 1
  | .configure => 2

/-- POWER_ON 0, RESET_LINE 1, RESTART 2 (R178). -/
def resetCause : ResetCause → Nat
  | .powerOn => 0
  | .resetLine => 1
  | .restart => 2

/-- A 0, B 1. -/
def group : Group → Nat
  | .a => 0
  | .b => 1

/-- Gate roles (R189). -/
def role : GateRole → Nat
  | .plain => 0
  | .entry => 1
  | .exit0 => 2
  | .exit1 => 3
  | .unused => 4

/-- Breaker states (R52). -/
def breaker : BState → Nat
  | .opened => 0
  | .closing => 1
  | .closed => 2
  | .opening => 3
  | .deadTime => 4
  | .testing => 5
  | .lockedOut => 6
  | .stuck => 7

/-- Trip causes, numbered as 04 section 4.2 lists them. -/
def trip : TripCause → Nat
  | .stuck => 0
  | .reverse => 1
  | .inst => 2
  | .delta => 3
  | .thermal => 4
  | .external => 5
  | .intertrip => 6

/-- The causes of a decision, numbered as R43 lists them (R47); the other trip causes are no decision's. -/
def decision : TripCause → Nat
  | .inst => 0
  | .delta => 1
  | .reverse => 2
  | .thermal => 3
  | .stuck | .external | .intertrip => 0xFF

/-- Causes of an opening (R56): the host open first. -/
def opening : OpenCause → Nat
  | .hostOpen => 0
  | .trip c => trip c

/-- Lockout causes (R61). -/
def lockout : LockoutCause → Nat
  | .reverse => 0
  | .noReclose => 1
  | .testFail => 2
  | .busLow => 3
  | .noClose => 4
  | .notReady => 5
  | .partner => 6

/-- Dead-time holds (R62). -/
def hold : Hold → Nat
  | .mode => 0
  | .blind => 1
  | .thermal => 2
  | .locked => 3
  | .backfeed => 4
  | .bridge => 5
  | .ready => 6
  | .partner => 7

/-- Line-test outcomes (R67, R72). -/
def outcome : TestOutcome → Nat
  | .pass => 0
  | .fail => 1
  | .inconclusive => 2
  | .abandoned => 3

/-- Injection patterns (R189). -/
def pattern : Pattern → Nat
  | .none => 0
  | .step => 1
  | .ramp => 2

/-- Gate states (R93). -/
def gateState : GState → Nat
  | .armed => 0
  | .engaged => 1
  | .held => 2

/-- Current flags (R93). -/
def currentFlag : CurrentFlag → Nat
  | .drawing => 0
  | .coasting => 1
  | .unknown => 2

/-- The missing pole: NONE 0, POSITIVE 1, NEGATIVE 2, as R93 lists its values (R189). -/
def missing : Missing → List Byte
  | .none => one 0
  | .positive => one 1
  | .negative => one 2

/-- Point states (R124). -/
def pointState : PState → Nat
  | .unknown => 0
  | .set => 1
  | .moving => 2
  | .failed => 3
  | .outOfService => 4

/-- Failure causes (R124). -/
def failure : FailCause → Nat
  | .move => 0
  | .detection => 1
  | .overfull => 2

/-- A leg. -/
def leg : Leg → Nat
  | .zero => 0
  | .one => 1

/-- A leg that may be absent. -/
def leg? (o : Option Leg) : List Byte :=
  match o with
  | none => absent
  | some l => one (leg l)

/-- The route override as POINT_ROUTE carries it: leg 0, leg 1, AUTO 2 (R189). -/
def route : Route → Nat
  | .fixed l => leg l
  | .auto => 2

/-- Route sources (R124). -/
def source : Source → Nat
  | .override => 0
  | .tag => 1
  | .current => 2
  | .default => 3
  | .undetermined => 4

/-- Aspects (R124). -/
def aspect : Aspect → Nat
  | .dark => 0
  | .proceed .zero => 1
  | .proceed .one => 2
  | .caution .zero => 3
  | .caution .one => 4
  | .moving _ => 5
  | .stop => 6

/-- Proving levels (R149). -/
def level : Level → Nat
  | .fresh => 0
  | .due => 1
  | .overdue => 2
  | .lapsed => 3

/-- Exercise phases (R147). -/
def phase : Phase → Nat
  | .idle => 0
  | .outbound => 1
  | .returnWait => 2
  | .returning => 3

/-- The exercise mark of a POINT_SET notice (R153, R154): no exercise 0xFF, OUTBOUND 0, RETURN 1 (assumption log 10). -/
def exercise : ExerciseMark → List Byte
  | .none => absent
  | .outbound => one 0
  | .returning => one 1

/-- Causes of a POINT_SET notice, in the order of the rules that give them. -/
def setCause : SetCause → Nat
  | .movement => 0
  | .service => 1
  | .reset => 2
  | .zoneClear => 3

/-- Fault events (R158). -/
def fault : FaultEvent → Nat
  | .suspect _ => 0
  | .bridging _ => 1
  | .poleFault _ _ => 2
  | .wrongLeg _ _ => 3
  | .overdue _ _ => 4
  | .doubtful => 5

/-- What a fault event adds to its notice (R159). -/
def faultDetail : FaultEvent → List Byte
  | .suspect f => one f.val
  | .bridging g => one g.val
  | .poleFault g m => one g.val ++ missing m
  | .wrongLeg p l => one p.val ++ one (leg l)
  | .overdue p l => one p.val ++ one (leg l)
  | .doubtful => []

/-- The fault flags (R103). -/
def faultFlags (fl : FaultFlags) : List Byte :=
  flags [fl.poleFault, fl.wrongLeg, fl.overdue, fl.bridging, fl.doubtful, fl.faulted]

/-- Reasons of an UNTRACKED notice (R113). -/
def noRoom : NoRoom → Nat
  | .queueFull => 0
  | .tableFull => 1

/-- Notice classes (R189). -/
def noticeClass : NoticeClass → Nat
  | .alarm => 0
  | .event => 1
  | .info => 2

/-- Result codes (R182). -/
def result : Result → Nat
  | .ok => 0
  | .clamped => 1
  | .badKind => 2
  | .badLength => 3
  | .badIndex => 4
  | .badValue => 5
  | .state => 6
  | .mode => 7
  | .busy => 8
  | .locked => 9
  | .full => 10
  | .notHeld => 11
  | .thermal => 12
  | .blind => 13
  | .injecting => 14

/-! ## Notices -/

/-- The kind of a notice (12 section 12.7). -/
def noticeKind : NoticeBody → Nat
  | .reset _ _ _ _ _ => 0x40
  | .mode _ _ _ => 0x41
  | .storeDone _ _ _ _ => 0x42
  | .trip _ _ _ => 0x43
  | .lockout _ _ _ => 0x44
  | .breakerFail _ _ _ => 0x45
  | .backfeedEntered _ _ _ _ _ _ | .backfeedCleared _ _ _ => 0x46
  | .supplyLostEntered _ _ _ _ | .supplyLostCleared _ => 0x47
  | .pointFailed _ _ _ _ _ => 0x48
  | .pointLapsed _ _ _ _ _ => 0x49
  | .zoneOverfull _ _ _ _ => 0x4A
  | .trackingMoved _ _ _ _ _ _ | .trackingRenamed _ _ _ _ _ => 0x4B
  | .blindEntered _ _ | .blindLeft _ _ => 0x4C
  | .orderConflict _ _ _ _ => 0x4D
  | .gateStuck _ _ _ _ _ _ _ _ _ | .gateCleared _ _ => 0x4E
  | .faultedEntered _ _ _ _ _ _ | .faultedCleared _ _ _ _ | .vehicleFault _ _ _ _ _ _ _ _ | .strayPoleFault _ _ _ => 0x4F
  | .testTrip _ _ _ _ _ _ _ _ => 0x50
  | .reclosed _ _ => 0x51
  | .testFail _ _ _ => 0x52
  | .uncommanded _ _ => 0x53
  | .sectionState _ _ _ _ _ _ => 0x54
  | .appeared _ _ _ _ _ _ => 0x55
  | .untracked _ _ _ _ _ _ => 0x56
  | .entryMissed _ _ _ _ _ => 0x57
  | .passage _ _ _ _ _ _ _ _ _ _ => 0x58
  | .measure _ _ _ => 0x59
  | .pointSet _ _ _ _ => 0x5A

/-- The TRIP notice (12 section 12.7). -/
def tripNotice (f : FeederNo) (r : TripRecord) (replaced : Bool) : List Byte :=
  one f.val ++ one (trip r.cause) ++ time r.time
    ++ (match r.peak with
      | none => unstated 2 2
      | some p => two p)
    ++ flags [r.sat, replaced] ++ delta r.delta ++ four r.heat ++ one r.attempt ++ one r.total ++ index r.suspect
    ++ list candidate r.candidates

/-- The MEASURE notice (12 section 12.7). With no measurement delivered since the reset its kind and marks are not given. -/
def measure (set : List FeederNo) (m : Option Measurement) (injecting : List FeederNo) : List Byte :=
  two (set.foldl (fun n f => n + 2 ^ f.val) 0)
    ++ match m with
      | none =>
        [free 3 0] ++ absent ++ two 0 ++ two 0
          ++ set.flatMap fun f => two 0 ++ two 0 ++ flags [false, injecting.contains f]
      | some m =>
        flags [m.held, m.broken, m.blind]
          ++ (match m.seq with
            | none => absent
            | some q => one q.toNat)
          ++ two m.busA ++ two m.busB
          ++ set.flatMap fun f => signed m.current[f].amps ++ two m.line[f] ++ flags [m.current[f].sat, injecting.contains f]

/-- The body of a notice: its fields in the order the owning rule lists them. -/
def noticeBody : NoticeBody → List Byte
  | .reset cause kept stored m t => one (resetCause cause) ++ flags [kept, stored] ++ one (mode m) ++ time t
  | .mode old new t => one (mode old) ++ one (mode new) ++ time t
  | .storeDone good g a c => one (if good then 0 else 1) ++ two g.toNat ++ time a ++ time c
  | .trip f r replaced => tripNotice f r replaced
  | .lockout f c n => one f.val ++ one (lockout c) ++ one n
  | .breakerFail f g c => one f.val ++ one (group g) ++ one (opening c)
  | .backfeedEntered c t v n gates unknown =>
    one 0 ++ one c.val ++ time t ++ two v ++ one n
      ++ list (fun b => one b.gate.val ++ one b.other.val ++ candidate? b.vehicle) gates ++ flags [unknown]
  | .backfeedCleared c t fed => one 1 ++ one c.val ++ time t ++ one (bit fed)
  | .supplyLostEntered c t v fs => one 0 ++ one c.val ++ time t ++ two v ++ list (fun f => one f.val) fs
  | .supplyLostCleared live => one 1 ++ one (if live then 0 else 1)
  | .pointFailed p c l d0 d1 => one p.val ++ one (failure c) ++ leg? l ++ flags [d0, d1]
  | .pointLapsed p st l proof t => one p.val ++ one (pointState st) ++ leg? l ++ time proof ++ time t
  | .zoneOverfull p a n t => one p.val ++ one a.val ++ index n ++ time t
  | .trackingMoved p fl n old pos d => one p.val ++ two fl ++ one n.val ++ one old.val ++ one pos ++ candidate? d
  | .trackingRenamed p e fl n g => one p.val ++ one e.val ++ two fl ++ one n.val ++ one g.val
  | .blindEntered last since =>
    one 0
      ++ (match last with
        | none => unstated 4 4 ++ absent
        | some (t, q) => time t ++ one q.toNat)
      ++ time since
  | .blindLeft since left => one 1 ++ time since ++ time left
  | .gateStuck g r e ps ns pl nl m st =>
    one 0 ++ one g.val ++ one (role r) ++ time e ++ flags [ps, ns, pl, nl] ++ missing m ++ flags [st]
  | .gateCleared g t => one 1 ++ one g.val ++ time t
  | .faultedEntered n fl g sus fs t => one 0 ++ one n.val ++ fleet fl ++ one g.val ++ one sus ++ faultFlags fs ++ time t
  | .faultedCleared n fl fs t => one 1 ++ one n.val ++ fleet fl ++ faultFlags fs ++ time t
  | .vehicleFault n fl g e pts sus fs t =>
    one n.val ++ fleet fl ++ one g.val ++ one (fault e) ++ one pts ++ one sus ++ faultFlags fs ++ time t ++ faultDetail e
  | .strayPoleFault g m t => absent ++ one (fault (.poleFault g m)) ++ one g.val ++ missing m ++ time t
  | .testTrip f c t peak sat d shadow pos =>
    one f.val ++ one (decision c) ++ time t ++ two peak ++ flags [sat] ++ delta d ++ four shadow ++ flags [true] ++ two pos
  | .reclosed f n => one f.val ++ one n
  | .testFail f o j =>
    one f.val ++ one (outcome o)
      ++ match j with
        | none => absent ++ unstated 5 6
        | some j => count j.vehicles ++ two j.g ++ two j.gFault ++ two j.busAverage
  | .uncommanded f st => one f.val ++ one (breaker st)
  | .sectionState c live v fed n t =>
    one c.val ++ one (if live then 0 else 1) ++ two v ++ flags [fed] ++ one n ++ time t
  | .orderConflict p a b t => one p.val ++ one a.slot.val ++ one b.slot.val ++ fleet a.fleet ++ fleet b.fleet ++ time t
  | .appeared g seg n fl behind t =>
    one g.val ++ one seg.val ++ one n.val
      ++ match fl with
        | none => time t
        | some fl => two fl ++ index behind
  | .untracked g t why freed n lost => one g.val ++ time t ++ one (noRoom why) ++ candidate? freed ++ one n ++ flags [lost]
  | .entryMissed p g l v t => one p.val ++ one g.val ++ one (leg l) ++ candidate? v ++ time t
  | .passage g src dst v unt fl m e t stay =>
    one g.val ++ index src ++ index dst ++ candidate? v ++ flags [unt] ++ one (currentFlag fl) ++ missing m ++ time e ++ time t
      ++ four? 6 stay
  | .measure set m injecting => measure set m injecting
  | .pointSet p l c e => one p.val ++ one (leg l) ++ one (setCause c) ++ exercise e

/-- The payload of a notice: kind, overflow mark and class, zone time, body (R187, R189). -/
def notice (n : Notice) (overflow : Bool) : List Byte :=
  one (noticeKind n.body) ++ one (bit overflow + 2 * noticeClass n.cls) ++ time n.time ++ noticeBody n.body

/-! ## Replies -/

/-- A detail (R182): 0xFF where nothing is named. -/
def detail (d : Detail) : List Byte :=
  let byte (o : Option Nat) : List Byte := match o with
    | none => absent
    | some n => one n
  byte d.kind ++ byte d.index ++ byte d.field

/-- A judged line test (R66). -/
def judged (o : Option Judged) : List Byte :=
  match o with
  | none => absent ++ unstated 7 16 ++ absent
  | some j =>
    count j.vehicles ++ four j.sumI ++ four j.sumU ++ two j.busAverage ++ conductance j.g ++ conductance j.correction
      ++ conductance j.gFault ++ one (outcome j.outcome)

/-- A line test in progress: its phase, then its sums of current, line voltage and busbar voltage (R52, R64, R65). No test 0, settle 1,
averaging 2: no table lists the phases (assumption log 10). Outside the averaging phase there are no sums, and their bytes are free
values (assumption log 4). -/
def lineTest : LineTest → List Byte
  | .idle => one 0 ++ unstated 12 12
  | .settle _ => one 1 ++ unstated 12 12
  | .average _ _ i u bus => one 2 ++ four i ++ four u ++ four bus

/-- An injection record (R23), its parameters as INJECT carries them. -/
def injection (j : Injection) : List Byte :=
  one (pattern j.pattern) ++ signed j.base ++ signed j.arg ++ two j.length ++ two j.stepScan ++ two j.position

/-- The READ_FEEDER reply: protection record (R49), breaker record (R52), last judged test (R66), injection record (02 section 2.7).
No rule orders the four parts (assumption log 10). -/
def feeder (r : FeederReport) : List Byte :=
  four r.heat ++ four r.cooling ++ one (bit r.rising) ++ count r.runLength ++ count r.overCount ++ count r.instRun
    ++ count r.reverseRun ++ count r.mask ++ four? 8 r.shadow ++ one (breaker r.state) ++ one r.attempts ++ one r.limit
    ++ four? 9 r.timer ++ lineTest r.test
    ++ (match r.lockout with
      | none => absent
      | some c => one (lockout c))
    ++ list (fun h => one (hold h)) r.holds ++ judged r.judged ++ injection r.injection

/-- A trip record (R75). -/
def tripRecord (o : Option TripRecord) : List Byte :=
  match o with
  | none =>
    absent ++ unstated 10 7 ++ two 0x8000 ++ unstated 11 4 ++ absent ++ list candidate [] ++ absent ++ absent
  | some r =>
    one (trip r.cause) ++ time r.time
      ++ (match r.peak with
        | none => unstated 2 2
        | some p => two p)
      ++ flags [r.sat] ++ delta r.delta ++ four r.heat ++ one r.attempt ++ list candidate r.candidates ++ one r.total
      ++ index r.suspect

/-- The READ_SECTION reply (R90). -/
def sec (r : SectionReport) : List Byte :=
  one (if r.live then 0 else 1) ++ two r.voltage ++ one r.liveCount ++ one r.deadCount ++ one r.backfeedCount
    ++ flags [r.fed, r.underTest, r.backfeed, r.supplyLost] ++ list one r.locks ++ list (fun f => one f.val) r.feeders
    ++ list (fun g => one g.val) r.segments ++ list (fun g => one g.val) r.breakGates

/-- A gate report (R102). -/
def gate (r : GateReport) : List Byte :=
  one r.gate.val ++ one (role r.role) ++ one (gateState r.record.state)
    ++ flags [r.record.settling, r.record.posSeen, r.record.negSeen, r.record.posLevel, r.record.negLevel]
    ++ one (currentFlag r.record.flag) ++ time r.record.engagedAt ++ missing r.record.missing
    ++ flags [r.record.stuck, r.breakGate]

/-- The READ_SEGMENT reply (R122). -/
def segment (r : SegmentReport) : List Byte :=
  one r.sec.val ++ list (fun e => candidate e.1 ++ index e.2) r.queue ++ one r.untracked
    ++ (match r.point with
      | none => absent ++ absent
      | some (p, k) => one p.val ++ one k)
    ++ list gate r.gates

/-- A zone queue entry (R145). -/
def entry (e : EntryReport) : List Byte :=
  one e.entry.slot.val ++ fleet e.fleet ++ one (leg e.entry.leg) ++ one (source e.entry.source) ++ flags [e.entry.mark.isSome]
    ++ four? 12 (e.entry.mark.map (·.toNat)) ++ four? 13 e.overdueLeft

/-- The READ_POINT reply (R145, R157). -/
def point (r : PointReport) : List Byte :=
  let p := r.record
  one (pointState p.state)
    ++ (match p.state with
      | .set | .unknown | .moving => one (leg p.leg)
      | .failed | .outOfService => absent)
    ++ (match p.failure with
      | none => absent
      | some c => one (failure c))
    ++ flags [p.confirmed, p.proofDemand, p.serviceOut] ++ one (route p.route) ++ list entry r.entries
    ++ list (fun q => two q.1.fleet ++ leg? q.1.leg ++ four q.2) r.reservations ++ one (aspect p.aspect) ++ time p.cadence
    ++ flags [r.det0, r.det1, r.drive0, r.drive1, r.lamp0, r.lamp1, r.lampX] ++ four? 14 r.moveLeft
    ++ one (level p.proving.level) ++ time p.proving.proofTime ++ four r.age ++ one (phase p.proving.phase)
    ++ (if p.proving.phase = .idle then absent else one (leg p.proving.home)) ++ four? 15 r.quietLeft
    ++ flags [p.proving.request] ++ count p.proving.proofs ++ count p.proving.exercises

/-- A vehicle record with its position (R103, R122). -/
def vehicle (v : Vehicle) (position : Nat) : List Byte :=
  fleet v.fleet ++ one v.segment.val ++ index v.gate ++ time v.entryTime ++ time v.lastActivity ++ one (currentFlag v.lastFlag)
    ++ one v.suspicion ++ faultFlags v.flags ++ one position

/-- The data of a reply, its fields in the order the owning rule lists them. The marks *free* of READ_VEHICLE and *not found* of
FIND_VEHICLE are a byte that stands first, alone where it is set (assumption log 10). -/
def data : ReplyData → List Byte
  | .none => []
  | .detail d => detail d
  | .identity r =>
    [0x4A#8, 0x5A#8, 0x31#8, 0x36#8, 0x41#8] ++ two r.working.toNat ++ two r.stored.toNat ++ two r.topology.toNat
      ++ flags [r.storedValid, r.retentionValid, r.maint] ++ one (resetCause r.cause)
  | .status r =>
    one (mode r.mode) ++ flags [r.storing, r.blind, r.overflow, r.latchA, r.latchB] ++ one r.queued ++ two r.linkErrors
      ++ two r.overruns ++ time r.time
  | .feeder r => feeder r
  | .trip r n => tripRecord r ++ one n
  | .sec r => sec r
  | .segment r => segment r
  | .point r => point r
  | .vehicle o =>
    match o with
    | none => flags [true]
    | some (v, pos) => flags [false] ++ vehicle v pos
  | .found o =>
    match o with
    | none => flags [true]
    | some (n, v, pos) => flags [false] ++ one n.val ++ vehicle v pos
  | .settings l => l.flatMap fun v => four (BitVec.ofInt 32 v).toNat
  | .floors c n => two c ++ one n
  | .locks already holders =>
    (match already with
      | none => []
      | some b => flags [b]) ++ list one holders
  | .placed n => one n.val
  | .removed fl g pos => fleet fl ++ one g.val ++ one pos
  | .untracked n => one n
  | .cleared sus fl => one sus ++ faultFlags fl
  | .classes e i => flags [e, i]

/-- The payload of a reply: kind with its top bit set, tag, result, data (R182). -/
def reply (r : Reply) : List Byte := [r.kind ||| 0x80#8, r.tag] ++ one (result r.result) ++ data r.data

end Enc

/-- The payload of a message. -/
def Message.payload : Message → List Byte
  | .reply r => Enc.reply r
  | .notice n overflow => Enc.notice n overflow

/-- The bytes the part is sending: the envelope of the message in transmission (R180, R183). -/
def State.outgoing (s : State) : List Byte :=
  match s.lnk.transmitting with
  | none => []
  | some m => envelope m.payload

end Sys2Proof.Machine
end

