-- ==== Sys2Proof/WellFormed.lean ====
section
/-! DEFINITION. Which commands the outside can send, beyond what their types say. exec gives every command an outcome,
well-formed or not; a well-formed one is a row of the table as the spec words it. -/

namespace Sys2Proof

/-- The request kinds of R189's table: 0x01 to 0x21. -/
def isRequestKind (k : Byte) : Bool := decide (1 ≤ k.toNat ∧ k.toNat ≤ 0x21)

/-- R180: an envelope is a sync byte, LEN, at most 240 payload bytes and two CRC bytes. -/
def envelopeSized (bytes : List Byte) : Bool := decide (1 ≤ bytes.length ∧ bytes.length ≤ 244)

/-- 02 section 2.1: a scan is a frame of 56 bytes. -/
def scanSized (bytes : List Byte) : Bool := decide (bytes.length = 56)

/-- R127: a telegram is six bytes. -/
def telegramSized (bytes : List Byte) : Bool := decide (bytes.length = 6)

/-- R189: 4 + 5n payload bytes within LEN's 240 leave at most 47 entries. -/
def entriesFit (args : Args WriteSettingsArgs) : Bool :=
  match args with
  | none => true
  | some a => decide (a.entries.length ≤ 47)

/-- 00_scope section 5: fleet numbers run from 1 to 9999. -/
def isFleetNumber (n : Nat) : Bool := decide (1 ≤ n ∧ n ≤ 9999)

/-- The well-formed commands. -/
def Instr.wellFormed : Instr → Bool
  | .envelopeReceived bytes => envelopeSized bytes
  | .requestBadKind kind _ => !isRequestKind kind
  | .scanReceived bytes => scanSized bytes
  | .telegramReceived bytes => telegramSized bytes
  | .writeSettings _ args => entriesFit args
  | .reservationExpiry _ fleet => isFleetNumber fleet
  | .envelopeTimeout | .messageSent | .identify _ _ _ | .status _ _ | .readFeeder _ _ | .readTripRecord _ _
  | .clearTripRecord _ _ | .readSection _ _ | .readSegment _ _ | .readPoint _ _ | .readVehicle _ _ | .findVehicle _ _
  | .readSettings _ _ | .storeSettings _ _ | .storeComplete _ | .setFloor _ _ _ | .setMode _ _ | .drainComplete
  | .feederClose _ _ | .feederOpen _ _ | .feederReset _ _ | .incomerReset _ _ | .lockAdd _ _ | .lockRemove _ _
  | .pointRoute _ _ | .pointService _ _ | .pointExercise _ _ | .pointReset _ _ | .zoneClear _ _ | .vehiclePlace _ _
  | .vehicleRemove _ _ | .vehicleClear _ _ | .inject _ _ | .watch _ _ | .noticeClasses _ _ | .restart _ _
  | .restartReset _ _ | .powerOn _ _ _ | .resetLine _ _ | .powerLoss _ | .watchTimerExpiry | .scanByteTimeout
  | .overdueWaitExpiry | .auxOpened _ | .auxClosed _ | .readyChange _ _ | .openConfirmExpiry _ | .closeConfirmExpiry _
  | .deadTimerExpiry _ | .deadTimeHoldsClear _ | .readyWaitExpiry _ | .reclaimTimerExpiry _ | .contactInputChange _ _ _
  | .contactAccepted _ _ | .poleTimerExpiry _ | .stuckTimerExpiry _ | .decayTimerExpiry _ | .telegramByteTimeout
  | .movementStart _ | .detectorChange _ _ _ | .arrivalWaitExpiry _ | .moveTimerExpiry _ | .detectionWaitExpiry _
  | .overdueTimerExpiry _ | .provingLevelChange _ | .quietTimerExpiry _ | .exerciseStart _ | .exerciseReturn _ => true

end Sys2Proof
end

