-- ==== Sys2Proof/Machine/Link.lean ====
section
/-! DEFINITION. The host link's commands: envelopes (R180, R181), messages sent (R183), and the requests of the Link Controller
(R184–R186) with RESTART (R177). -/

namespace Sys2Proof.Machine

namespace State

/-- A 16-bit count stays at 65,535 once it gets there (R180, R181). -/
def saturate (n : Nat) : Nat := min 65535 n

/-- Link errors are counted (R180). -/
def countErrors (s : State) (n : Nat) : State := { s with lnk := { s.lnk with linkErrors := saturate (s.lnk.linkErrors + n) } }

/-- R181: a good payload is queued as a request, counted as a link error when it holds no tag, or as an overrun when the queue
holds 4. -/
def takePayload (s : State) (p : List Byte) : State :=
  if p.length < 2 then s.countErrors 1
  else if 4 ≤ s.lnk.requests.length then { s with lnk := { s.lnk with overruns := saturate (s.lnk.overruns + 1) } }
  else { s with lnk := { s.lnk with requests := s.lnk.requests ++ [p] } }

/-- R180, R181: bytes arrive on the host link. -/
def receive (s : State) (bytes : List Byte) : State :=
  let buf := s.lnk.rx ++ bytes
  let e := envelopeFrames (buf.length + 1) buf
  e.payloads.foldl takePayload (({ s with lnk := { s.lnk with rx := e.left } }).countErrors e.bad)

/-- R180: a gap of more than 20 ms ends the envelope being assembled, if one is. -/
def dropEnvelope (s : State) : State :=
  if s.lnk.rx.isEmpty then s else ({ s with lnk := { s.lnk with rx := [] } }).countErrors 1

/-- R183: the message in transmission has been sent whole; a reply empties the slot, and the OK of a RESTART makes its reset
due (R177). -/
def messageDone (s : State) : State :=
  match s.lnk.transmitting with
  | none => s
  | some (.reply r) =>
    { s with lnk := { s.lnk with
        transmitting := none, replySlot := none, restart := if r.restarts then .due else s.lnk.restart } }
  | some (.notice _ _) => { s with lnk := { s.lnk with transmitting := none } }

/-! ### The requests LNK owns -/

/-- R185: the feeders a set names; `none` when it names one above 11. -/
def watchSetOf (w : BitVec 16) : Option (List FeederNo) :=
  if w.toNat < 4096 then some ((List.finRange 12).filter fun f => w.getLsbD f.val) else none

/-- R185: WATCH. -/
def serveWatch (s : State) (a : WatchArgs) : Answer × State :=
  match watchSetOf a.feeders with
  | none => (.refuse .badValue, s)
  | some [] => (.ok .none, { s with lnk := { s.lnk with watchSet := [], watchTimer := none } })
  | some set =>
    let asked := a.period.toNat
    let period := max 10 (min 1000 asked)
    (⟨if period = asked then .ok else .clamped, .none, false⟩,
      { s with lnk := { s.lnk with watchSet := set, watchPeriod := period, watchTimer := some (later s.now period) } })

/-- R186: NOTICE_CLASSES. -/
def serveClasses (s : State) (flags : Byte) : Answer × State :=
  if 3 < flags.toNat then (.refuse .badValue, s)
  else
    let e := flags.getLsbD 0
    let i := flags.getLsbD 1
    (.ok (.classes e i), { s with lnk := { s.lnk with eventEnabled := e, infoEnabled := i } })

/-- R177: RESTART is answered OK; its reset follows once that reply has been sent in full. -/
def serveRestart (s : State) (_ : Unit) : Answer × State :=
  (⟨.ok, .none, true⟩, { s with lnk := { s.lnk with restart := .answered } })

/-- R185: the watch timer expires: it starts again and a MEASURE notice is raised. -/
def watchExpire (s : State) : State :=
  if isDue s.now s.lnk.watchTimer then
    (({ s with lnk := { s.lnk with watchTimer := some (later s.now s.lnk.watchPeriod) } }).raise s.measureNotice)
  else s

end State

/-! ## The commands -/

/-- ENVELOPE_RECEIVED (R180, R181). -/
def execEnvelopeReceived (bytes : List Byte) (s : State) : Host.Outcome State Fault Refusal :=
  .next (s.event fun s => s.receive bytes)

/-- ENVELOPE_TIMEOUT (R180). -/
def execEnvelopeTimeout (s : State) : Host.Outcome State Fault Refusal := .next (s.event fun s => s.dropEnvelope)

/-- REQUEST_BAD_KIND (R182): a kind that is a request kind is dispatched under its own row, never here. -/
def execRequestBadKind (kind tag : Byte) (s : State) : Host.Outcome State Fault Refusal :=
  .next (if isRequestKind kind then s
    else s.request (.requestBadKind kind tag) kind tag (some ()) fun s _ => (.bare .badKind, s))

/-- MESSAGE_SENT (R183). -/
def execMessageSent (s : State) : Host.Outcome State Fault Refusal := .next (s.event fun s => s.messageDone)

/-- IDENTIFY (R184). -/
def execIdentify (tag : Byte) (args : Args Unit) (maint : Bool) (s : State) : Host.Outcome State Fault Refusal :=
  .next ((s.withMaint maint).request (.identify tag args maint) 0x01 tag args fun s _ => (.ok (.identity s.identity), s))

/-- STATUS (R184). -/
def execStatus (tag : Byte) (args : Args Unit) (s : State) : Host.Outcome State Fault Refusal :=
  .next (s.request (.status tag args) 0x02 tag args fun s _ => (.ok (.status s.statusReport), s))

/-- WATCH (R185). -/
def execWatch (tag : Byte) (args : Args WatchArgs) (s : State) : Host.Outcome State Fault Refusal :=
  .next (s.request (.watch tag args) 0x1F tag args State.serveWatch)

/-- NOTICE_CLASSES (R186). -/
def execNoticeClasses (tag : Byte) (flags : Args Byte) (s : State) : Host.Outcome State Fault Refusal :=
  .next (s.request (.noticeClasses tag flags) 0x20 tag flags State.serveClasses)

/-- RESTART (R177). -/
def execRestart (tag : Byte) (args : Args Unit) (s : State) : Host.Outcome State Fault Refusal :=
  .next (s.request (.restart tag args) 0x21 tag args State.serveRestart)

/-- WATCH_TIMER_EXPIRY (R185). -/
def execWatchTimerExpiry (s : State) : Host.Outcome State Fault Refusal := .next (s.event fun s => s.watchExpire)

end Sys2Proof.Machine
end

