-- ==== Sys2Proof/Machine/Locks.lean ====
section
/-! DEFINITION. READ_SECTION (R90) and the work locks (R87–R89). -/

namespace Sys2Proof.Machine

namespace State

/-- R90: READ_SECTION. -/
def serveReadSection (s : State) (b : Byte) : Answer × State :=
  match indexOf 12 b with
  | none => (.refuse .badIndex, s)
  | some c => (.ok (.sec (s.sectionReport c)), s)

/-- R88: a breaker at rest, over which a permit may be granted. -/
def BState.atRest : BState → Bool
  | .opened | .lockedOut | .stuck => true
  | .closing | .closed | .opening | .deadTime | .testing => false

/-- R88: every enabled feeder of the section is at rest. -/
def sectionAtRest (s : State) (c : SectionNo) : Bool :=
  (s.topo.enabledFeeders c).all fun f => BState.atRest (s.breaker f).state

/-- R88, R175: a holder is appended; the first raises SECTION_STATE, with the zone time of the event (assumption log 31). -/
def addHolder (s : State) (c : SectionNo) (h : Nat) : State :=
  let s1 := s.setLocks c (s.locks c ++ [h])
  (if (s.locks c).isEmpty then s1.raiseSectionState c s.now else s1).takeUp

/-- R89, R175: a holder is removed; the last raises SECTION_STATE, with the zone time of the event (assumption log 31). -/
def removeHolder (s : State) (c : SectionNo) (h : Nat) : State :=
  let s1 := s.setLocks c ((s.locks c).filter (· ≠ h))
  (if (s1.locks c).isEmpty then s1.raiseSectionState c s.now else s1).takeUp

/-- R88: LOCK_ADD. -/
def serveLockAdd (s : State) (a : LockArgs) : Answer × State :=
  match indexOf 12 a.sec with
  | none => (.refuse .badIndex, s)
  | some c =>
    let h := a.holder.toNat
    if h = 0 ∨ 250 < h then (.refuse .badValue, s)
    else if h ∈ s.locks c then (.ok (.locks (some true) (s.locks c)), s)
    else if !s.sectionAtRest c then (.refuse .state, s)
    else if 4 ≤ (s.locks c).length then (.refuse .full, s)
    else (.ok (.locks (some false) (s.locks c ++ [h])), s.addHolder c h)

/-- R89: LOCK_REMOVE. -/
def serveLockRemove (s : State) (a : LockArgs) : Answer × State :=
  match indexOf 12 a.sec with
  | none => (.refuse .badIndex, s)
  | some c =>
    let h := a.holder.toNat
    if 250 < h then (.refuse .badValue, s)
    else if h ∉ s.locks c then (.refuse .notHeld, s)
    else (.ok (.locks none ((s.locks c).filter (· ≠ h))), s.removeHolder c h)

end State

/-! ## The commands -/

/-- READ_SECTION (R90). -/
def execReadSection (tag : Byte) (sec : Args Byte) (s : State) : Host.Outcome State Fault Refusal :=
  .next (s.request (.readSection tag sec) 0x06 tag sec State.serveReadSection)

/-- LOCK_ADD (R88). -/
def execLockAdd (tag : Byte) (args : Args LockArgs) (s : State) : Host.Outcome State Fault Refusal :=
  .next (s.request (.lockAdd tag args) 0x14 tag args State.serveLockAdd)

/-- LOCK_REMOVE (R89). -/
def execLockRemove (tag : Byte) (args : Args LockArgs) (s : State) : Host.Outcome State Fault Refusal :=
  .next (s.request (.lockRemove tag args) 0x15 tag args State.serveLockRemove)

end Sys2Proof.Machine
end

