-- ==== Sys2Proof/Machine/Points.lean ====
section
/-! DEFINITION. The point requests (R141–R145, R156), the movement, exercise and timer events of points (R133–R135, R138,
R148–R155), the tag channel (R127, R128). -/

namespace Sys2Proof.Machine

namespace State

/-! ### Requests -/

/-- A request that names a point: above 15 is BAD_INDEX, an unfitted point STATE (R9), before a value of the request is judged
(assumption log 12). -/
def withPoint (s : State) (b : Byte) (serve : State → PointNo → Answer × State) : Answer × State :=
  match indexOf 16 b with
  | none => (.refuse .badIndex, s)
  | some p => if s.fitted p then serve s p else (.refuse .state, s)

/-- R145: READ_POINT. -/
def serveReadPoint (s : State) (p : PointNo) : Answer × State := (.ok (.point (s.pointReport p)), s)

/-- R141, R189: the route a POINT_ROUTE carries. -/
def routeArg (b : Byte) : Option Route :=
  if b = 0 then some (.fixed .zero) else if b = 1 then some (.fixed .one) else if b = 2 then some .auto else none

/-- R141: POINT_ROUTE. -/
def serveRoute (value : Byte) (s : State) (p : PointNo) : Answer × State :=
  match routeArg value with
  | none => (.refuse .badValue, s)
  | some r => (.ok .none, s.setPoint p { s.point p with route := r })

/-- R142, R155: POINT_SERVICE OUT. In MOVING service-out waits for the end of the movement; the exercise ends at once. -/
def serviceOut (s : State) (p : PointNo) : State :=
  let r := s.point p
  match r.state with
  | .moving => (s.setPoint p (PointRec.idle { r with serviceOut := true })).takeUp
  | .unknown | .set | .failed => (s.setPoint p (PointRec.retire r)).takeUp
  | .outOfService => s

/-- R142, R143: a point is put at a proved leg by the host: SET with a notice when its zone is confirmed, else UNKNOWN. -/
def bringBack (s : State) (p : PointNo) (l : Leg) (demand : Bool) (cause : SetCause) : State :=
  let r := s.point p
  let r1 : PointRec :=
    { r with
      leg := l, failure := none, state := if r.confirmed then .set else .unknown
      proofDemand := r.proofDemand || demand }
  let s1 := s.setPoint p r1
  (if r.confirmed then s1.raise (.pointSet p l cause .none) else s1).takeUp

/-- R142: POINT_SERVICE IN. The POINT_FAILED of a point whose detectors prove no leg names no leg (assumption log 36). -/
def serviceIn (s : State) (p : PointNo) : State :=
  let r := s.point p
  match r.state with
  | .outOfService =>
    match s.provenLeg p with
    | some l => s.bringBack p l false .service
    | none => (s.failPoint p .detection none).takeUp
  | .moving => (s.setPoint p { r with serviceOut := false }).takeUp
  | .unknown | .set | .failed => s

/-- R142: POINT_SERVICE. -/
def serveService (value : Byte) (s : State) (p : PointNo) : Answer × State :=
  if value = 0 then (.ok .none, s.serviceOut p)
  else if value = 1 then (.ok .none, s.serviceIn p)
  else (.refuse .badValue, s)

/-- R156: POINT_EXERCISE. -/
def serveExercise (s : State) (p : PointNo) : Answer × State :=
  let r := s.point p
  match r.state with
  | .set | .moving => (.ok .none, (s.setPoint p { r with proving := { r.proving with request := true } }).takeUp)
  | .unknown | .failed | .outOfService => (.refuse .state, s)

/-- R143: POINT_RESET. -/
def servePointReset (s : State) (p : PointNo) : Answer × State :=
  let r := s.point p
  match r.state, s.provenLeg p with
  | .failed, some l => (.ok .none, s.bringBack p l (r.failure == some .move || r.failure == some .detection) .reset)
  | _, _ => (.refuse .state, s)

/-- R144: the zone of a point is confirmed. -/
def confirmZone (s : State) (p : PointNo) : State :=
  let r := s.point p
  match r.state with
  | .unknown =>
    ((s.setPoint p { r with confirmed := true, state := .set }).raise (.pointSet p r.leg .zoneClear .none)).takeUp
  | .set | .moving | .failed | .outOfService => (s.setPoint p { r with confirmed := true }).takeUp

/-- R144: ZONE_CLEAR. -/
def serveZoneClear (s : State) (p : PointNo) : Answer × State :=
  if (s.point p).confirmed then (.refuse .state, s) else (.ok .none, s.confirmZone p)

/-! ### Movements and exercises -/

/-- R133: a movement starts at this moment, if its conditions hold. -/
def beginMovement (s : State) (p : PointNo) : State :=
  if (s.movementTarget p).isSome then (s.takeUpMovement p).takeUp else s

/-- R152: an exercise starts at this moment, if its conditions hold. -/
def beginExercise (s : State) (p : PointNo) : State := if s.exerciseDue p then (s.takeUpExercise p).takeUp else s

/-- R154: a return starts at this moment, if its conditions hold. -/
def beginReturn (s : State) (p : PointNo) : State := if s.returnDue p then (s.takeUpReturn p).takeUp else s

/-! ### Detectors and timers -/

/-- The detector inputs of a point take new levels. -/
def setDetectors (s : State) (p : PointNo) (d0 d1 : Bool) : State :=
  { s with pins := { s.pins with det0 := s.pins.det0.set p d0, det1 := s.pins.det1.set p d1 } }

/-- R126, R134, R135: a point's detectors have changed; an unfitted point's are not examined (R9). -/
def detectorsChanged (s : State) (p : PointNo) : State := if s.fitted p then (s.watchDetectors p).takeUp else s

/-- R134: the arrival wait runs out in MOVING. -/
def arrivalExpire (s : State) (p : PointNo) : State :=
  if s.fitted p && (s.point p).state == .moving && isDue s.now (s.point p).arrivalWait then (s.arrive p).takeUp else s

/-- R134: the move timer expires in MOVING. -/
def moveExpire (s : State) (p : PointNo) : State :=
  if s.fitted p && (s.point p).state == .moving && isDue s.now (s.point p).moveTimer then
    (s.failPoint p .move (some (s.point p).leg)).takeUp
  else s

/-- R135: the detection wait runs out in SET or UNKNOWN. -/
def detectionExpire (s : State) (p : PointNo) : State :=
  if s.fitted p && ((s.point p).state == .set || (s.point p).state == .unknown) && isDue s.now (s.point p).detectionWait then
    (s.failPoint p .detection (some (s.point p).leg)).takeUp
  else s

/-- R138: the head's overdue timer expires; OVERDUE is handed to the tracker with the head's leg as the exit leg (R159; assumption
log 22). -/
def overdueExpire (s : State) (p : PointNo) : State :=
  let r := s.point p
  match r.queue with
  | [] => s
  | h :: rest =>
    if s.fitted p && isDue s.now h.overdue then
      (s.setPoint p { r with queue := { h with overdue := none } :: rest }).applyFault h.slot (.overdue p h.leg)
    else s

/-- R149: the age of a proof reaches a boundary. -/
def levelExpire (s : State) (p : PointNo) : State :=
  if s.fitted p && s.judgedLevel p != (s.point p).proving.level then (s.judgeLevel p).takeUp else s

/-- R151: the quiet timer expires: the point is ready to exercise. -/
def quietExpire (s : State) (p : PointNo) : State :=
  let r := s.point p
  if s.fitted p && isDue s.now r.proving.quietTimer then
    (s.setPoint p { r with proving := { r.proving with quietTimer := none, ready := true } }).takeUp
  else s

/-! ### The tag channel -/

/-- The telegram assembly takes new bytes left over (R127). -/
def setTagBytes (s : State) (l : List Byte) : State := { s with ptc := { s.ptc with rx := l } }

/-- R127, R128: bytes arrive on the tag channel. -/
def tagBytes (s : State) (bytes : List Byte) : State :=
  let buf := s.ptc.rx ++ bytes
  let (telegrams, left) := telegramFrames (buf.length + 1) buf
  (telegrams.foldl takeTelegram (s.setTagBytes left)).takeUp

/-- R128: a reservation of a fleet number expires at a point. -/
def reservationExpire (s : State) (p : PointNo) (fleet : Nat) : State :=
  let r := s.point p
  let gone (q : Reservation) : Bool := q.fleet == fleet && reached s.now q.expires
  if s.fitted p && r.reservations.any gone then
    (s.setPoint p { r with reservations := r.reservations.filter fun q => !gone q }).takeUp
  else s

end State

/-! ## The commands -/

/-- READ_POINT (R145, R157). -/
def execReadPoint (tag : Byte) (point : Args Byte) (s : State) : Host.Outcome State Fault Refusal :=
  .next (s.request (.readPoint tag point) 0x08 tag point fun s b => s.withPoint b State.serveReadPoint)

/-- POINT_ROUTE (R141). -/
def execPointRoute (tag : Byte) (args : Args PointArgs) (s : State) : Host.Outcome State Fault Refusal :=
  .next (s.request (.pointRoute tag args) 0x16 tag args fun s a => s.withPoint a.point (State.serveRoute a.value))

/-- POINT_SERVICE (R142). -/
def execPointService (tag : Byte) (args : Args PointArgs) (s : State) : Host.Outcome State Fault Refusal :=
  .next (s.request (.pointService tag args) 0x17 tag args fun s a => s.withPoint a.point (State.serveService a.value))

/-- POINT_EXERCISE (R156). -/
def execPointExercise (tag : Byte) (point : Args Byte) (s : State) : Host.Outcome State Fault Refusal :=
  .next (s.request (.pointExercise tag point) 0x18 tag point fun s b => s.withPoint b State.serveExercise)

/-- POINT_RESET (R143). -/
def execPointReset (tag : Byte) (point : Args Byte) (s : State) : Host.Outcome State Fault Refusal :=
  .next (s.request (.pointReset tag point) 0x19 tag point fun s b => s.withPoint b State.servePointReset)

/-- ZONE_CLEAR (R144). -/
def execZoneClear (tag : Byte) (point : Args Byte) (s : State) : Host.Outcome State Fault Refusal :=
  .next (s.request (.zoneClear tag point) 0x1A tag point fun s b => s.withPoint b State.serveZoneClear)

/-- MOVEMENT_START (R133). -/
def execMovementStart (point : PointNo) (s : State) : Host.Outcome State Fault Refusal :=
  .next (s.event fun s => s.beginMovement point)

/-- DETECTOR_CHANGE (R126, R134, R135). -/
def execDetectorChange (point : PointNo) (det0 det1 : Bool) (s : State) : Host.Outcome State Fault Refusal :=
  .next ((s.setDetectors point det0 det1).event fun s => s.detectorsChanged point)

/-- ARRIVAL_WAIT_EXPIRY (R134, R148, R153, R154). -/
def execArrivalWaitExpiry (point : PointNo) (s : State) : Host.Outcome State Fault Refusal :=
  .next (s.event fun s => s.arrivalExpire point)

/-- MOVE_TIMER_EXPIRY (R134). -/
def execMoveTimerExpiry (point : PointNo) (s : State) : Host.Outcome State Fault Refusal :=
  .next (s.event fun s => s.moveExpire point)

/-- DETECTION_WAIT_EXPIRY (R135). -/
def execDetectionWaitExpiry (point : PointNo) (s : State) : Host.Outcome State Fault Refusal :=
  .next (s.event fun s => s.detectionExpire point)

/-- OVERDUE_TIMER_EXPIRY (R138). -/
def execOverdueTimerExpiry (point : PointNo) (s : State) : Host.Outcome State Fault Refusal :=
  .next (s.event fun s => s.overdueExpire point)

/-- PROVING_LEVEL_CHANGE (R149, R150). -/
def execProvingLevelChange (point : PointNo) (s : State) : Host.Outcome State Fault Refusal :=
  .next (s.event fun s => s.levelExpire point)

/-- QUIET_TIMER_EXPIRY (R151). -/
def execQuietTimerExpiry (point : PointNo) (s : State) : Host.Outcome State Fault Refusal :=
  .next (s.event fun s => s.quietExpire point)

/-- EXERCISE_START (R152). -/
def execExerciseStart (point : PointNo) (s : State) : Host.Outcome State Fault Refusal :=
  .next (s.event fun s => s.beginExercise point)

/-- EXERCISE_RETURN (R154). -/
def execExerciseReturn (point : PointNo) (s : State) : Host.Outcome State Fault Refusal :=
  .next (s.event fun s => s.beginReturn point)

/-- TELEGRAM_RECEIVED (R127, R128). -/
def execTelegramReceived (bytes : List Byte) (s : State) : Host.Outcome State Fault Refusal :=
  .next (s.event fun s => s.tagBytes bytes)

/-- TELEGRAM_BYTE_TIMEOUT (R127). -/
def execTelegramByteTimeout (s : State) : Host.Outcome State Fault Refusal := .next (s.event fun s => s.setTagBytes [])

/-- RESERVATION_EXPIRY (R128). -/
def execReservationExpiry (point : PointNo) (fleet : Nat) (s : State) : Host.Outcome State Fault Refusal :=
  .next (s.event fun s => s.reservationExpire point fleet)

end Sys2Proof.Machine
end

