-- ==== Sys2Proof/Machine/Resets.lean ====
section
/-! DEFINITION. The resets and the loss of supply (R171, R175–R178). -/

namespace Sys2Proof.Machine

namespace State

/-- R171, R175: the supply is lost: a store in progress ends, and a retained area caught in an update fails its next check. -/
def loseSupply (s : State) (midUpdate : Bool) : State :=
  { s with
    powered := false
    sst := { s.sst with job := none }
    ret := { s.ret with intact := s.ret.intact && !midUpdate } }

/-- The external reset input takes a level. -/
def setResetLine (s : State) (asserted : Bool) : State := { s with pins := { s.pins with resetLine := asserted } }

end State

/-! ## The commands -/

/-- RESTART_RESET (R177, R178): the reset of a RESTART whose reply has been sent in full, unless RESET_LINE is asserted. -/
def execRestartReset (rate0 rate1 : Bool) (s : State) : Host.Outcome State Fault Refusal :=
  .next (s.event fun s => if s.restartsNow then s.doReset .restart s.ret.intact rate0 rate1 else s)

/-- POWER_ON (R176, R178): the supply returns; `backupHeld` is whether the backup supply held the retained area. -/
def execPowerOn (backupHeld rate0 rate1 : Bool) (s : State) : Host.Outcome State Fault Refusal :=
  .next ((s.doReset .powerOn (s.ret.intact && backupHeld) rate0 rate1).transmit)

/-- RESET_LINE (R177, R178): the external reset input takes a level. Its release resets the part; while it is asserted no RESTART
is taken, and the part goes on as usual otherwise (assumption log 38). -/
def execResetLine (asserted : Bool) (straps : Bool × Bool) (s : State) : Host.Outcome State Fault Refusal :=
  .next ((s.setResetLine asserted).event fun s => if asserted then s else s.doReset .resetLine s.ret.intact straps.1 straps.2)

/-- POWER_LOSS (R171, R175). -/
def execPowerLoss (midUpdate : Bool) (s : State) : Host.Outcome State Fault Refusal :=
  .next (s.ifPowered fun s => s.loseSupply midUpdate)

end Sys2Proof.Machine
end

