-- ==== Sys2Proof/Machine/Scans.lean ====
section
/-! DEFINITION. The scan port's events (R14, R15, R19–R22). -/

namespace Sys2Proof.Machine

namespace State

/-- The scan assembly keeps other bytes (R14). -/
def setScanBytes (s : State) (l : List Byte) : State := { s with scp := { s.scp with rx := l } }

/-- R14, R15: bytes arrive on the scan port; each valid scan among them is accepted, in order. -/
def scanBytes (s : State) (bytes : List Byte) : State :=
  let buf := s.scp.rx ++ bytes
  let (frames, left) := scanFrames (buf.length + 1) buf
  frames.foldl (fun s f => (s.acceptScan (scanOf f)).takeUp) (s.setScanBytes left)

/-- R19–R21: the overdue wait expires: a held scan is supplied, or while BLIND the valid run returns to 0 and the wait
restarts. -/
def overdueWait (s : State) : State :=
  if reached s.now s.scp.overdueAt then
    if s.scp.blind then { s with scp := { s.scp with validRun := 0, overdueAt := later s.now 2 } }
    else s.supplyHeld.takeUp
  else s

end State

/-! ## The commands -/

/-- SCAN_RECEIVED (R14–R18, R21, R22). -/
def execScanReceived (bytes : List Byte) (s : State) : Host.Outcome State Fault Refusal :=
  .next (s.event fun s => s.scanBytes bytes)

/-- SCAN_BYTE_TIMEOUT (R14). -/
def execScanByteTimeout (s : State) : Host.Outcome State Fault Refusal := .next (s.event fun s => s.setScanBytes [])

/-- OVERDUE_WAIT_EXPIRY (R19, R20, R21). -/
def execOverdueWaitExpiry (s : State) : Host.Outcome State Fault Refusal := .next (s.event fun s => s.overdueWait)

end Sys2Proof.Machine
end

