-- ==== Sys2Proof/Machine/Store.lean ====
section
/-! DEFINITION. The Settings Store's commands: settings read and written (R168–R170), the store (R171), the floor caps (R172), the
mode (R173, R174). -/

namespace Sys2Proof.Machine

namespace State

/-- R168: READ_SETTINGS. -/
def serveReadSettings (s : State) (a : ReadSettingsArgs) : Answer × State :=
  match recordOf a.kind a.index with
  | none => (.refuse .badIndex, s)
  | some id =>
    if a.source = 0 then (.ok (.settings (s.sst.working.values id)), s)
    else if a.source = 1 then
      if s.sst.storedValid && s.sst.job.isNone then (.ok (.settings (s.sst.stored.values id)), s) else (.refuse .state, s)
    else (.refuse .badValue, s)

/-- R170: a topology field of a record has another value after a write. -/
def topologyMoved (specs : List FieldSpec) (old new : List Int) : Bool :=
  (specs.zip (old.zip new)).any fun x => x.1.cls == .topology && x.2.1 != x.2.2

/-- R149: a write that changes a point's T_prove or T_grace has its level judged afresh. -/
def rejudge (s : State) (old : State) (id : RecordId) : State :=
  match id with
  | .point p =>
    if s.fitted p && ((s.pointSet p).tProve != (old.pointSet p).tProve || (s.pointSet p).tGrace != (old.pointSet p).tGrace) then
      s.judgeLevel p
    else s
  | .zone | .feeder _ | .sec _ | .segment _ | .gate _ => s

/-- R169, R170: an accepted write replaces the record whole and moves the generations. -/
def acceptWrite (s : State) (id : RecordId) (record : List Int) : State :=
  let w := s.sst.working.put id record
  let moved := topologyMoved id.specs (s.sst.working.values id) (w.values id)
  let s1 := { s with sst := { s.sst with
    working := w, workingGen := s.sst.workingGen + 1
    topologyGen := if moved then s.sst.topologyGen + 1 else s.sst.topologyGen } }
  (s1.rejudge s id).takeUp

/-- R169: WRITE_SETTINGS. -/
def serveWriteSettings (s : State) (a : WriteSettingsArgs) : Answer × State :=
  match recordOf a.kind a.index with
  | none => (.refuse .badIndex, s)
  | some id =>
    match judgeWrite s.sst.working s.sst.mode s.sst.job.isSome id a with
    | .refused r d => (.refuseAt r d, s)
    | .accepted record clamped =>
      let s1 := s.acceptWrite id record
      (⟨if clamped then .clamped else .ok, .settings (s1.sst.working.values id), false⟩, s1)

/-- R171: STORE_SETTINGS. -/
def serveStore (s : State) (_ : Unit) : Answer × State :=
  if s.sst.job.isSome then (.refuse .busy, s)
  else
    (.ok .none, { s with sst := { s.sst with
      storedValid := false, job := some ⟨s.sst.working, s.sst.workingGen, s.sst.topologyGen, s.now⟩ } })

/-- R171: a store is complete. A failed check leaves the stored set invalid. -/
def completeStore (s : State) (good : Bool) : State :=
  match s.sst.job with
  | none => s
  | some j =>
    let t : Sst :=
      if good then
        { s.sst with job := none, stored := j.copy, storedValid := true, storedWorkingGen := j.working, storedTopologyGen := j.topology }
      else { s.sst with job := none, storedValid := false }
    ({ s with sst := t }).raise (.storeDone good t.storedWorkingGen j.accepted s.now)

/-- R172, R189: the current cap a SET_FLOOR names. -/
def namedCurrent (a : SetFloorArgs) : Option Nat := if a.current = 0xFFFF#16 then none else some a.current.toNat

/-- R172, R189: the reclose cap a SET_FLOOR names. -/
def namedReclose (a : SetFloorArgs) : Option Nat := if a.reclose = 0xFF#8 then none else some a.reclose.toNat

/-- R172: the lowest feeder whose I_max or N_reclose stands above a named cap. -/
def aboveFloor (s : State) (c n : Option Nat) : Option FeederNo :=
  (List.finRange 12).find? fun f =>
    c.any (fun v => decide (v < (s.feederSet f).iMax)) || n.any (fun v => decide (v < (s.feederSet f).nReclose))

/-- R172: SET_FLOOR. -/
def serveFloor (s : State) (a : SetFloorArgs) : Answer × State :=
  let c := namedCurrent a
  let n := namedReclose a
  if c.isNone && n.isNone then (.ok (.floors s.sst.working.floorCurrent s.sst.working.floorReclose), s)
  else if s.sst.job.isSome then (.refuse .busy, s)
  else if c.any (fun v => decide (v < 200 ∨ 6000 < v)) || n.any (fun v => decide (3 < v)) then (.refuse .badValue, s)
  else if (c.any (fun v => decide (s.sst.working.floorCurrent < v)) || n.any fun v => decide (s.sst.working.floorReclose < v))
      && (s.sst.mode != .configure || !s.pins.maint) then (.refuse .locked, s)
  else match s.aboveFloor c n with
    | some f => (.refuseAt .state (.record 1 f.val), s)
    | none =>
      let cur := c.getD s.sst.working.floorCurrent
      let rec' := n.getD s.sst.working.floorReclose
      (.ok (.floors cur rec'),
        { s with sst := { s.sst with
          working := { s.sst.working with floorCurrent := cur, floorReclose := rec' }, workingGen := s.sst.workingGen + 1 } })

/-- R10–R12, R173: RUN is asked for in CONFIGURE. -/
def enterRun (s : State) : Answer × State :=
  match s.sst.working.topology.firstFailure with
  | some (kind, index, check) => (.refuseAt .badValue ⟨some kind, some index, some check⟩, s)
  | none =>
    match s.feederConflict with
    | some f => (.refuseAt .state (.record 1 f.val), s)
    | none => (.ok .none, (s.activate.changeMode .run).takeUp)

/-- R173: SET_MODE. -/
def serveMode (s : State) (m : Byte) : Answer × State :=
  if m = 0 then
    match s.sst.mode with
    | .run => (.ok .none, s)
    | .draining => (.ok .none, (s.changeMode .run).takeUp)
    | .configure => s.enterRun
  else if m = 1 then
    match s.sst.mode with
    | .run => (.ok .none, (s.changeMode .draining).takeUp)
    | .draining | .configure => (.ok .none, s)
  else (.refuse .badValue, s)

/-- R174: DRAINING ends at the first moment at which nothing is left to drain. -/
def endDrain (s : State) : State := if s.sst.mode = .draining ∧ s.drained then (s.takeUpDrain).takeUp else s

end State

/-! ## The commands -/

/-- READ_SETTINGS (R168). -/
def execReadSettings (tag : Byte) (args : Args ReadSettingsArgs) (s : State) : Host.Outcome State Fault Refusal :=
  .next (s.request (.readSettings tag args) 0x0B tag args State.serveReadSettings)

/-- WRITE_SETTINGS (R169). -/
def execWriteSettings (tag : Byte) (args : Args WriteSettingsArgs) (s : State) : Host.Outcome State Fault Refusal :=
  .next (s.request (.writeSettings tag args) 0x0C tag args State.serveWriteSettings)

/-- STORE_SETTINGS (R171). -/
def execStoreSettings (tag : Byte) (args : Args Unit) (s : State) : Host.Outcome State Fault Refusal :=
  .next (s.request (.storeSettings tag args) 0x0D tag args State.serveStore)

/-- STORE_COMPLETE (R171). -/
def execStoreComplete (good : Bool) (s : State) : Host.Outcome State Fault Refusal :=
  .next (s.event fun s => s.completeStore good)

/-- SET_FLOOR (R172). -/
def execSetFloor (tag : Byte) (args : Args SetFloorArgs) (maint : Bool) (s : State) : Host.Outcome State Fault Refusal :=
  .next ((s.withMaint maint).request (.setFloor tag args maint) 0x0E tag args State.serveFloor)

/-- SET_MODE (R173). -/
def execSetMode (tag : Byte) (mode : Args Byte) (s : State) : Host.Outcome State Fault Refusal :=
  .next (s.request (.setMode tag mode) 0x0F tag mode State.serveMode)

/-- DRAIN_COMPLETE (R174). -/
def execDrainComplete (s : State) : Host.Outcome State Fault Refusal := .next (s.event fun s => s.endDrain)

end Sys2Proof.Machine
end

