-- ==== Sys2Proof/Machine/Vehicles.lean ====
section
/-! DEFINITION. The vehicle requests (R120–R122, R163) and the decay of suspicion (R161). -/

namespace Sys2Proof.Machine

namespace State

/-- R122: READ_SEGMENT. -/
def serveReadSegment (s : State) (b : Byte) : Answer × State :=
  match indexOf 32 b with
  | none => (.refuse .badIndex, s)
  | some g => (.ok (.segment (s.segmentReport g)), s)

/-- R122: READ_VEHICLE. -/
def serveReadVehicle (s : State) (b : Byte) : Answer × State :=
  match indexOf 48 b with
  | none => (.refuse .badIndex, s)
  | some n => (.ok (.vehicle (s.vehicleReport n)), s)

/-- R122: FIND_VEHICLE. -/
def serveFind (s : State) (w : BitVec 16) : Answer × State :=
  if w.toNat = 0 ∨ 9999 < w.toNat then (.refuse .badValue, s) else (.ok (.found (s.findReport w.toNat)), s)

/-- R120: the record a placement's fleet number is held by. -/
def placeHolder (s : State) (a : PlaceArgs) : Option SlotNo := if a.fleet = 0 then none else s.holderOfFleet a.fleet.toNat

/-- R120: the placement itself. -/
def place (s : State) (g : SegmentNo) (a : PlaceArgs) (n : SlotNo) : State :=
  let v := s.newVehicle (if a.fleet = 0 then none else some a.fleet.toNat) g .unknown
  let s1 := (s.setVehicle n (some v)).setQueue g (s.queue g ++ [n])
  (if a.flags.getLsbD 0 then s1.claimUntracked g else s1).takeUp

/-- R120: VEHICLE_PLACE. -/
def servePlace (s : State) (a : PlaceArgs) : Answer × State :=
  match indexOf 32 a.segment with
  | none => (.refuse .badIndex, s)
  | some g =>
    if 9999 < a.fleet.toNat then (.refuse .badValue, s)
    else match s.placeHolder a with
      | some n => (.refuseAt .state ⟨none, some n.val, none⟩, s)
      | none =>
        if a.flags.getLsbD 0 && s.untracked g == 0 then (.refuse .state, s)
        else if 8 ≤ (s.queue g).length then (.refuse .full, s)
        else match s.freeSlot with
          | none => (.refuse .full, s)
          | some n => (.ok (.placed n), s.place g a n)

/-- R121: the slot form of VEHICLE_REMOVE. -/
def removeSlot (s : State) (b : Byte) : Answer × State :=
  match indexOf 48 b with
  | none => (.refuse .badIndex, s)
  | some n =>
    match s.vehicle n with
    | none => (.refuse .state, s)
    | some v => (.ok (.removed v.fleet v.segment (s.position n v)), (s.freeVehicle n).takeUp)

/-- R121: the segment form of VEHICLE_REMOVE. -/
def removeUntracked (s : State) (b : Byte) : Answer × State :=
  match indexOf 32 b with
  | none => (.refuse .badIndex, s)
  | some g => if s.untracked g = 0 then (.refuse .state, s) else (.ok (.untracked (s.untracked g - 1)), s.claimUntracked g)

/-- R121: VEHICLE_REMOVE. -/
def serveRemove (s : State) (a : RemoveArgs) : Answer × State :=
  if a.form = 0 then s.removeSlot a.index
  else if a.form = 1 then s.removeUntracked a.index
  else (.refuse .badValue, s)

/-- A record without suspicion, flags or decay (R163). -/
def Vehicle.absolved (v : Vehicle) : Vehicle :=
  { v with suspicion := 0, flags := ⟨false, false, false, false, false, false⟩, decay := none }

/-- R163: VEHICLE_CLEAR. -/
def serveVehicleClear (s : State) (b : Byte) : Answer × State :=
  match indexOf 48 b with
  | none => (.refuse .badIndex, s)
  | some n =>
    match s.vehicle n with
    | none => (.refuse .state, s)
    | some v => (.ok (.cleared v.suspicion v.flags), s.setVehicle n (some (Vehicle.absolved v)))

/-- A record after a decay (R161). -/
def Vehicle.decayed (v : Vehicle) (again : Time) : Vehicle :=
  if v.suspicion - 1 = 0 then { v with suspicion := 0, decay := none, flags := { v.flags with faulted := false } }
  else { v with suspicion := v.suspicion - 1, decay := some again }

/-- R161: a decay timer expires; a decay to 0 clears FAULTED with a notice. -/
def decayExpire (s : State) (n : SlotNo) : State :=
  match s.vehicle n with
  | none => s
  | some v =>
    if isDue s.now v.decay then
      let v1 := Vehicle.decayed v (later s.now s.sst.working.zone.tDecay)
      let s1 := s.setVehicle n (some v1)
      if v.flags.faulted && !v1.flags.faulted then s1.raise (.faultedCleared n v.fleet v1.flags s.now) else s1
    else s

end State

/-! ## The commands -/

/-- READ_SEGMENT (R102, R122). -/
def execReadSegment (tag : Byte) (segment : Args Byte) (s : State) : Host.Outcome State Fault Refusal :=
  .next (s.request (.readSegment tag segment) 0x07 tag segment State.serveReadSegment)

/-- READ_VEHICLE (R122). -/
def execReadVehicle (tag : Byte) (slot : Args Byte) (s : State) : Host.Outcome State Fault Refusal :=
  .next (s.request (.readVehicle tag slot) 0x09 tag slot State.serveReadVehicle)

/-- FIND_VEHICLE (R122). -/
def execFindVehicle (tag : Byte) (fleet : Args (BitVec 16)) (s : State) : Host.Outcome State Fault Refusal :=
  .next (s.request (.findVehicle tag fleet) 0x0A tag fleet State.serveFind)

/-- VEHICLE_PLACE (R120). -/
def execVehiclePlace (tag : Byte) (args : Args PlaceArgs) (s : State) : Host.Outcome State Fault Refusal :=
  .next (s.request (.vehiclePlace tag args) 0x1B tag args State.servePlace)

/-- VEHICLE_REMOVE (R121). -/
def execVehicleRemove (tag : Byte) (args : Args RemoveArgs) (s : State) : Host.Outcome State Fault Refusal :=
  .next (s.request (.vehicleRemove tag args) 0x1C tag args State.serveRemove)

/-- VEHICLE_CLEAR (R163). -/
def execVehicleClear (tag : Byte) (slot : Args Byte) (s : State) : Host.Outcome State Fault Refusal :=
  .next (s.request (.vehicleClear tag slot) 0x1D tag slot State.serveVehicleClear)

/-- DECAY_TIMER_EXPIRY (R161). -/
def execDecayTimerExpiry (slot : SlotNo) (s : State) : Host.Outcome State Fault Refusal :=
  .next (s.event fun s => s.decayExpire slot)

end Sys2Proof.Machine
end

