-- ==== Sys2Proof/Machine/Dispatch.lean ====
section
/-! DEFINITION. exec: one arm for each command, each one direct call of its meaning. -/

namespace Sys2Proof.Machine

/-- The effect of a command on everything but the queue of commands. -/
def exec (i : Instr) (s : State) : Host.Outcome State Fault Refusal :=
  match i with
  | .envelopeReceived bytes => Sys2Proof.Machine.execEnvelopeReceived bytes s
  | .envelopeTimeout => Sys2Proof.Machine.execEnvelopeTimeout s
  | .requestBadKind kind tag => Sys2Proof.Machine.execRequestBadKind kind tag s
  | .messageSent => Sys2Proof.Machine.execMessageSent s
  | .identify tag args maint => Sys2Proof.Machine.execIdentify tag args maint s
  | .status tag args => Sys2Proof.Machine.execStatus tag args s
  | .readFeeder tag feeder => Sys2Proof.Machine.execReadFeeder tag feeder s
  | .readTripRecord tag feeder => Sys2Proof.Machine.execReadTripRecord tag feeder s
  | .clearTripRecord tag feeder => Sys2Proof.Machine.execClearTripRecord tag feeder s
  | .readSection tag sec => Sys2Proof.Machine.execReadSection tag sec s
  | .readSegment tag segment => Sys2Proof.Machine.execReadSegment tag segment s
  | .readPoint tag point => Sys2Proof.Machine.execReadPoint tag point s
  | .readVehicle tag slot => Sys2Proof.Machine.execReadVehicle tag slot s
  | .findVehicle tag fleet => Sys2Proof.Machine.execFindVehicle tag fleet s
  | .readSettings tag args => Sys2Proof.Machine.execReadSettings tag args s
  | .writeSettings tag args => Sys2Proof.Machine.execWriteSettings tag args s
  | .storeSettings tag args => Sys2Proof.Machine.execStoreSettings tag args s
  | .storeComplete good => Sys2Proof.Machine.execStoreComplete good s
  | .setFloor tag args maint => Sys2Proof.Machine.execSetFloor tag args maint s
  | .setMode tag mode => Sys2Proof.Machine.execSetMode tag mode s
  | .drainComplete => Sys2Proof.Machine.execDrainComplete s
  | .feederClose tag feeder => Sys2Proof.Machine.execFeederClose tag feeder s
  | .feederOpen tag feeder => Sys2Proof.Machine.execFeederOpen tag feeder s
  | .feederReset tag feeder => Sys2Proof.Machine.execFeederReset tag feeder s
  | .incomerReset tag group => Sys2Proof.Machine.execIncomerReset tag group s
  | .lockAdd tag args => Sys2Proof.Machine.execLockAdd tag args s
  | .lockRemove tag args => Sys2Proof.Machine.execLockRemove tag args s
  | .pointRoute tag args => Sys2Proof.Machine.execPointRoute tag args s
  | .pointService tag args => Sys2Proof.Machine.execPointService tag args s
  | .pointExercise tag point => Sys2Proof.Machine.execPointExercise tag point s
  | .pointReset tag point => Sys2Proof.Machine.execPointReset tag point s
  | .zoneClear tag point => Sys2Proof.Machine.execZoneClear tag point s
  | .vehiclePlace tag args => Sys2Proof.Machine.execVehiclePlace tag args s
  | .vehicleRemove tag args => Sys2Proof.Machine.execVehicleRemove tag args s
  | .vehicleClear tag slot => Sys2Proof.Machine.execVehicleClear tag slot s
  | .inject tag args => Sys2Proof.Machine.execInject tag args s
  | .watch tag args => Sys2Proof.Machine.execWatch tag args s
  | .noticeClasses tag flags => Sys2Proof.Machine.execNoticeClasses tag flags s
  | .restart tag args => Sys2Proof.Machine.execRestart tag args s
  | .restartReset rate0 rate1 => Sys2Proof.Machine.execRestartReset rate0 rate1 s
  | .powerOn backupHeld rate0 rate1 => Sys2Proof.Machine.execPowerOn backupHeld rate0 rate1 s
  | .resetLine asserted straps => Sys2Proof.Machine.execResetLine asserted straps s
  | .powerLoss midUpdate => Sys2Proof.Machine.execPowerLoss midUpdate s
  | .watchTimerExpiry => Sys2Proof.Machine.execWatchTimerExpiry s
  | .scanReceived bytes => Sys2Proof.Machine.execScanReceived bytes s
  | .scanByteTimeout => Sys2Proof.Machine.execScanByteTimeout s
  | .overdueWaitExpiry => Sys2Proof.Machine.execOverdueWaitExpiry s
  | .auxOpened feeder => Sys2Proof.Machine.execAuxOpened feeder s
  | .auxClosed feeder => Sys2Proof.Machine.execAuxClosed feeder s
  | .readyChange feeder present => Sys2Proof.Machine.execReadyChange feeder present s
  | .openConfirmExpiry feeder => Sys2Proof.Machine.execOpenConfirmExpiry feeder s
  | .closeConfirmExpiry feeder => Sys2Proof.Machine.execCloseConfirmExpiry feeder s
  | .deadTimerExpiry feeder => Sys2Proof.Machine.execDeadTimerExpiry feeder s
  | .deadTimeHoldsClear feeder => Sys2Proof.Machine.execDeadTimeHoldsClear feeder s
  | .readyWaitExpiry feeder => Sys2Proof.Machine.execReadyWaitExpiry feeder s
  | .reclaimTimerExpiry feeder => Sys2Proof.Machine.execReclaimTimerExpiry feeder s
  | .contactInputChange gate input active => Sys2Proof.Machine.execContactInputChange gate input active s
  | .contactAccepted gate contact => Sys2Proof.Machine.execContactAccepted gate contact s
  | .poleTimerExpiry gate => Sys2Proof.Machine.execPoleTimerExpiry gate s
  | .stuckTimerExpiry gate => Sys2Proof.Machine.execStuckTimerExpiry gate s
  | .decayTimerExpiry slot => Sys2Proof.Machine.execDecayTimerExpiry slot s
  | .telegramReceived bytes => Sys2Proof.Machine.execTelegramReceived bytes s
  | .telegramByteTimeout => Sys2Proof.Machine.execTelegramByteTimeout s
  | .reservationExpiry point fleet => Sys2Proof.Machine.execReservationExpiry point fleet s
  | .movementStart point => Sys2Proof.Machine.execMovementStart point s
  | .detectorChange point det0 det1 => Sys2Proof.Machine.execDetectorChange point det0 det1 s
  | .arrivalWaitExpiry point => Sys2Proof.Machine.execArrivalWaitExpiry point s
  | .moveTimerExpiry point => Sys2Proof.Machine.execMoveTimerExpiry point s
  | .detectionWaitExpiry point => Sys2Proof.Machine.execDetectionWaitExpiry point s
  | .overdueTimerExpiry point => Sys2Proof.Machine.execOverdueTimerExpiry point s
  | .provingLevelChange point => Sys2Proof.Machine.execProvingLevelChange point s
  | .quietTimerExpiry point => Sys2Proof.Machine.execQuietTimerExpiry point s
  | .exerciseStart point => Sys2Proof.Machine.execExerciseStart point s
  | .exerciseReturn point => Sys2Proof.Machine.execExerciseReturn point s

end Sys2Proof.Machine
end

