-- ==== Sys2Proof/Machine/Tick.lean ====
section
/-! DEFINITION. What the part does while no command waits (assumption log 1): it dispatches a queued request (R182), takes the reset
of a RESTART (R177), or lets one millisecond of zone time pass and raises the expiries that have come. -/

namespace Sys2Proof.Machine

/-- A command, when a condition holds. -/
def raiseIf (c : Bool) (i : Instr) : List Instr := if c then [i] else []

namespace State

/-- The expiries of the feeders' timers that have come. -/
def feederExpiries (s : State) (f : FeederNo) : List Instr :=
  let b := s.breaker f
  raiseIf (isDue s.now b.openTimer) (.openConfirmExpiry f) ++ raiseIf (isDue s.now b.closeTimer) (.closeConfirmExpiry f)
    ++ raiseIf (isDue s.now b.deadTimer) (.deadTimerExpiry f) ++ raiseIf (isDue s.now b.readyWait) (.readyWaitExpiry f)
    ++ raiseIf (isDue s.now b.reclaim) (.reclaimTimerExpiry f)

/-- The expiries of a gate's waits and timers that have come. -/
def gateExpiries (s : State) (g : GateNo) : List Instr :=
  let r := s.gate g
  raiseIf (isDue s.now r.posWait) (.contactAccepted g .positive) ++ raiseIf (isDue s.now r.negWait) (.contactAccepted g .negative)
    ++ raiseIf (isDue s.now r.poleTimer) (.poleTimerExpiry g) ++ raiseIf (isDue s.now r.stuckTimer) (.stuckTimerExpiry g)

/-- The expiries of a fitted point's waits and timers that have come. -/
def pointExpiries (s : State) (p : PointNo) : List Instr :=
  let r := s.point p
  if s.fitted p then
    (r.reservations.filter fun q => reached s.now q.expires).map (fun q => .reservationExpiry p q.fleet)
      ++ raiseIf (isDue s.now r.arrivalWait) (.arrivalWaitExpiry p) ++ raiseIf (isDue s.now r.moveTimer) (.moveTimerExpiry p)
      ++ raiseIf (isDue s.now r.detectionWait) (.detectionWaitExpiry p)
      ++ raiseIf (r.queue.head?.any fun h => isDue s.now h.overdue) (.overdueTimerExpiry p)
      ++ raiseIf (s.judgedLevel p != r.proving.level) (.provingLevelChange p)
      ++ raiseIf (isDue s.now r.proving.quietTimer) (.quietTimerExpiry p)
  else []

/-- The expiries that have come, block by block. -/
def expiries (s : State) : List Instr :=
  raiseIf (reached s.now s.scp.overdueAt) .overdueWaitExpiry
    ++ (List.finRange 12).flatMap s.feederExpiries
    ++ (List.finRange 64).flatMap s.gateExpiries
    ++ (List.finRange 48).flatMap (fun n => raiseIf ((s.vehicle n).any fun v => isDue s.now v.decay) (.decayTimerExpiry n))
    ++ (List.finRange 16).flatMap s.pointExpiries
    ++ raiseIf (isDue s.now s.lnk.watchTimer) .watchTimerExpiry

/-- One millisecond of zone time passes (R178), and the expiries that have come are put in the queue. -/
def tick (s : State) : State :=
  let s1 := { s with now := s.now + 1 }
  { s1 with pending := s1.expiries }

/-- The oldest queued request, when it can be dispatched (R182). -/
def nextRequest (s : State) : Option Instr :=
  if s.lnk.replySlot.isNone && s.lnk.restart == .none then s.lnk.requests.head?.bind (requestOf s.pins.maint) else none

/-- The part with no command waiting. -/
def idle (s : State) : State :=
  if !s.powered then s
  else if s.restartsNow then { s with pending := [.restartReset s.pins.rate0 s.pins.rate1] }
  else match s.nextRequest with
    | some i => { s with pending := [i] }
    | none => s.tick

end State

end Sys2Proof.Machine
end

