-- ==== Sys2Proof/Safety.lean ====
section
/-! DEFINITION. The terms in which claims speak: the parts of the state and what leaves them unchanged, a request that can be
served and its answer, and the conditions a safe part keeps. -/

namespace Sys2Proof.Machine

/-! ## Parts of the state -/

/-- The parts of the state, each owned by one block (00_scope section 4). -/
inductive Part where
  | clock
  | power
  | pins
  | link
  | settings
  | mode
  | intact
  | locks
  | lockouts
  | trips
  | scan
  | protection
  | breakers
  | latches
  | sections
  | gates
  | vehicles
  | tags
  | points
  | queue
  deriving DecidableEq, Repr

/-- A part of the state is the same in two states. `settings` is the Settings Store but for the mode and the topology generation
noted at its entry to CONFIGURE. -/
def Part.same (s t : State) : Part → Prop
  | .clock => t.now = s.now
  | .power => t.powered = s.powered
  | .pins => t.pins = s.pins
  | .link => t.lnk = s.lnk
  | .settings => { t.sst with mode := s.sst.mode, notedGen := s.sst.notedGen } = s.sst
  | .mode => t.sst.mode = s.sst.mode ∧ t.sst.notedGen = s.sst.notedGen
  | .intact => t.ret.intact = s.ret.intact
  | .locks => t.ret.locks = s.ret.locks
  | .lockouts => t.ret.lockouts = s.ret.lockouts
  | .trips => t.ret.trips = s.ret.trips ∧ t.ret.tripCounts = s.ret.tripCounts
  | .scan => t.scp = s.scp
  | .protection => t.fpu = s.fpu
  | .breakers => t.bsq.breakers = s.bsq.breakers
  | .latches => t.bsq.latchA = s.bsq.latchA ∧ t.bsq.latchB = s.bsq.latchB
  | .sections => t.sem = s.sem
  | .gates => t.gsc = s.gsc
  | .vehicles => t.vtr = s.vtr
  | .tags => t.ptc.rx = s.ptc.rx
  | .points => t.ptc.points = s.ptc.points
  | .queue => t.pending = s.pending

/-- Every part but those listed is unchanged from `s` to `t`. -/
def KeptBut (l : List Part) (s t : State) : Prop := ∀ p, p ∉ l → Part.same s t p

/-! ## Notices -/

/-- The link after notices have been raised one after the other at a zone time (R186, R187). -/
def Lnk.says (l : Lnk) (now : Time) (bs : List NoticeBody) : Lnk :=
  bs.foldl (fun l b => if l.enabled (noticeClass b) then l.offer ⟨b, noticeClass b, now⟩ else l) l

/-- From `s` to `t` only the parts listed have changed, and on the link only notices have been raised. -/
structure Moves (l : List Part) (s t : State) : Prop where
  kept : KeptBut (.link :: l) s t
  now : t.now = s.now
  noted : ∃ bs, t.lnk = s.lnk.says s.now bs

/-- An event is over: it has raised the notices `bs`, then whatever the moment raised besides, and the transmitter has looked for
something to send (R183). -/
def Says (s t : State) (bs : List NoticeBody) : Prop := ∃ more, t.lnk = (s.lnk.says s.now (bs ++ more)).begin

/-- An event has raised a notice, perhaps among others, and is over. -/
def Raises (s t : State) (b : NoticeBody) : Prop := ∃ before after, t.lnk = (s.lnk.says s.now (before ++ b :: after)).begin

/-! ## Requests -/

/-- A request can be served now: the part has supply and the request can be dispatched (R182). -/
def Ready (s : State) (i : Instr) : Prop := s.powered = true ∧ s.mayDispatch i = true

/-- The link without its oldest request. -/
def Lnk.taken (l : Lnk) : Lnk := { l with requests := l.requests.tail }

/-- The link with an answer in its reply slot. -/
def Lnk.replied (l : Lnk) (kind tag : Byte) (a : Answer) : Lnk :=
  { l with replySlot := some ⟨kind, tag, a.result, a.data, a.restarts⟩ }

/-- A request has been answered (R182): it has left the queue, the notices `bs` have been raised and then whatever the moment
raised besides, the reply stands in the reply slot, and the transmitter has looked for something to send. -/
def Answered (s t : State) (kind tag : Byte) (a : Answer) (bs : List NoticeBody) : Prop :=
  ∃ more, t.lnk = (((s.lnk.taken).says s.now (bs ++ more)).replied kind tag a).begin

/-- The link after a request that raised no notice. -/
def Lnk.answered (l : Lnk) (kind tag : Byte) (a : Answer) : Lnk := ((l.taken).replied kind tag a).begin

/-- A request is answered and does nothing else. -/
def OnlyReplies (i : Instr) (s : State) (kind tag : Byte) (a : Answer) : Prop :=
  exec i s = .next { s with lnk := s.lnk.answered kind tag a }

/-- An event finds nothing to do: only the transmitter looks for something to send. -/
def NothingToDo (i : Instr) (s : State) : Prop := exec i s = .next { s with lnk := s.lnk.begin }

/-- The kind and the tag of a command that is a request (R182, R189). -/
def requestKind : Instr → Option (Byte × Byte)
  | .requestBadKind k tag => if isRequestKind k then none else some (k, tag)
  | .identify tag _ _ => some (0x01, tag)
  | .status tag _ => some (0x02, tag)
  | .readFeeder tag _ => some (0x03, tag)
  | .readTripRecord tag _ => some (0x04, tag)
  | .clearTripRecord tag _ => some (0x05, tag)
  | .readSection tag _ => some (0x06, tag)
  | .readSegment tag _ => some (0x07, tag)
  | .readPoint tag _ => some (0x08, tag)
  | .readVehicle tag _ => some (0x09, tag)
  | .findVehicle tag _ => some (0x0A, tag)
  | .readSettings tag _ => some (0x0B, tag)
  | .writeSettings tag _ => some (0x0C, tag)
  | .storeSettings tag _ => some (0x0D, tag)
  | .setFloor tag _ _ => some (0x0E, tag)
  | .setMode tag _ => some (0x0F, tag)
  | .feederClose tag _ => some (0x10, tag)
  | .feederOpen tag _ => some (0x11, tag)
  | .feederReset tag _ => some (0x12, tag)
  | .incomerReset tag _ => some (0x13, tag)
  | .lockAdd tag _ => some (0x14, tag)
  | .lockRemove tag _ => some (0x15, tag)
  | .pointRoute tag _ => some (0x16, tag)
  | .pointService tag _ => some (0x17, tag)
  | .pointExercise tag _ => some (0x18, tag)
  | .pointReset tag _ => some (0x19, tag)
  | .zoneClear tag _ => some (0x1A, tag)
  | .vehiclePlace tag _ => some (0x1B, tag)
  | .vehicleRemove tag _ => some (0x1C, tag)
  | .vehicleClear tag _ => some (0x1D, tag)
  | .inject tag _ => some (0x1E, tag)
  | .watch tag _ => some (0x1F, tag)
  | .noticeClasses tag _ => some (0x20, tag)
  | .restart tag _ => some (0x21, tag)
  | _ => none

/-- A request whose payload has a wrong length for its kind (R182). -/
def wrongLength : Instr → Bool
  | .identify _ a _ | .status _ a | .storeSettings _ a | .restart _ a => a.isNone
  | .readFeeder _ a | .readTripRecord _ a | .clearTripRecord _ a | .readSection _ a | .readSegment _ a | .readPoint _ a
  | .readVehicle _ a | .setMode _ a | .feederClose _ a | .feederOpen _ a | .feederReset _ a | .incomerReset _ a
  | .pointExercise _ a | .pointReset _ a | .zoneClear _ a | .vehicleClear _ a | .noticeClasses _ a => a.isNone
  | .findVehicle _ a => a.isNone
  | .readSettings _ a => a.isNone
  | .writeSettings _ a => a.isNone
  | .setFloor _ a _ => a.isNone
  | .lockAdd _ a | .lockRemove _ a => a.isNone
  | .pointRoute _ a | .pointService _ a => a.isNone
  | .vehiclePlace _ a => a.isNone
  | .vehicleRemove _ a => a.isNone
  | .inject _ a => a.isNone
  | .watch _ a => a.isNone
  | _ => false

/-- The level of the MAINT strap a command was given with. -/
def strapOf : Instr → Option Bool
  | .identify _ _ maint => some maint
  | .setFloor _ _ maint => some maint
  | _ => none

/-- A request names a record, feeder, group, section, segment, slot or point that the part does not have. -/
def namesNone : Instr → Bool
  | .readFeeder _ (some b) | .readTripRecord _ (some b) | .clearTripRecord _ (some b) | .feederClose _ (some b)
  | .feederOpen _ (some b) | .feederReset _ (some b) | .readSection _ (some b) => decide (12 ≤ b.toNat)
  | .incomerReset _ (some b) => decide (2 ≤ b.toNat)
  | .readSegment _ (some b) => decide (32 ≤ b.toNat)
  | .readVehicle _ (some b) | .vehicleClear _ (some b) => decide (48 ≤ b.toNat)
  | .readPoint _ (some b) | .pointExercise _ (some b) | .pointReset _ (some b) | .zoneClear _ (some b) => decide (16 ≤ b.toNat)
  | .pointRoute _ (some a) | .pointService _ (some a) => decide (16 ≤ a.point.toNat)
  | .readSettings _ (some a) => (recordOf a.kind a.index).isNone
  | .writeSettings _ (some a) => (recordOf a.kind a.index).isNone
  | .lockAdd _ (some a) | .lockRemove _ (some a) => decide (12 ≤ a.sec.toNat)
  | .vehiclePlace _ (some a) => decide (32 ≤ a.segment.toNat)
  | .vehicleRemove _ (some a) => decide ((a.form = 0 ∧ 48 ≤ a.index.toNat) ∨ (a.form = 1 ∧ 32 ≤ a.index.toNat))
  | .inject _ (some a) => decide (12 ≤ a.feeder.toNat)
  | _ => false

/-- The byte in which a request names a point. -/
def pointByte : Instr → Option Byte
  | .readPoint _ b | .pointExercise _ b | .pointReset _ b | .zoneClear _ b => b
  | .pointRoute _ a | .pointService _ a => a.map (·.point)
  | _ => none

/-! ## Expiries -/

/-- The expiry that a command reports has come: its wait or timer has run out, or the age of a proof has reached the boundary of
another level (R19, R57, R62, R69, R70, R92, R97, R99, R128, R134, R135, R138, R149, R151, R161, R185). No other command comes
of the passing of time. -/
def HasCome (s : State) : Instr → Prop
  | .overdueWaitExpiry => reached s.now s.scp.overdueAt = true
  | .openConfirmExpiry f => isDue s.now (s.breaker f).openTimer = true
  | .closeConfirmExpiry f => isDue s.now (s.breaker f).closeTimer = true
  | .deadTimerExpiry f => isDue s.now (s.breaker f).deadTimer = true
  | .readyWaitExpiry f => isDue s.now (s.breaker f).readyWait = true
  | .reclaimTimerExpiry f => isDue s.now (s.breaker f).reclaim = true
  | .contactAccepted g .positive => isDue s.now (s.gate g).posWait = true
  | .contactAccepted g .negative => isDue s.now (s.gate g).negWait = true
  | .poleTimerExpiry g => isDue s.now (s.gate g).poleTimer = true
  | .stuckTimerExpiry g => isDue s.now (s.gate g).stuckTimer = true
  | .decayTimerExpiry n => ∃ v, s.vehicle n = some v ∧ isDue s.now v.decay = true
  | .reservationExpiry p fleet =>
      s.fitted p = true ∧ ∃ q ∈ (s.point p).reservations, q.fleet = fleet ∧ reached s.now q.expires = true
  | .arrivalWaitExpiry p => s.fitted p = true ∧ isDue s.now (s.point p).arrivalWait = true
  | .moveTimerExpiry p => s.fitted p = true ∧ isDue s.now (s.point p).moveTimer = true
  | .detectionWaitExpiry p => s.fitted p = true ∧ isDue s.now (s.point p).detectionWait = true
  | .overdueTimerExpiry p => s.fitted p = true ∧ ∃ e ∈ (s.point p).queue.head?, isDue s.now e.overdue = true
  | .provingLevelChange p => s.fitted p = true ∧ (s.point p).proving.level ≠ .lapsed ∧
      levelFor (s.pointSet p) (age s.now (s.point p).proving.proofTime) ≠ (s.point p).proving.level
  | .quietTimerExpiry p => s.fitted p = true ∧ isDue s.now (s.point p).proving.quietTimer = true
  | .watchTimerExpiry => isDue s.now s.lnk.watchTimer = true
  | _ => False

/-! ## Judging settings and topologies -/

/-- R169: an entry, after those before it, names a field the record does not have or one already named. -/
def StrayField (count : Nat) (before : List FieldEntry) (e : FieldEntry) : Prop :=
  e.field = 0 ∨ count < e.field.toNat ∨ ∃ d ∈ before, d.field = e.field

/-- R169: the merged record of a write: the named fields at the values written, every other field as it was. -/
def Merged (w : Settings) (id : RecordId) (entries : List FieldEntry) (m : List Int) : Prop :=
  m.length = id.specs.length ∧ (∀ e ∈ entries, valueAt m e.field.toNat = e.value.toInt) ∧
    ∀ n, 1 ≤ n → n ≤ id.specs.length → (∀ e ∈ entries, e.field.toNat ≠ n) → valueAt m n = valueAt (w.values id) n

/-- R169: field `n` of a merged record, not a timer, lies outside its range. -/
def OutOfRange (id : RecordId) (m : List Int) (n : Nat) : Prop :=
  1 ≤ n ∧ ∃ spec, id.specs[n - 1]? = some spec ∧ spec.cls ≠ .timer ∧ spec.range.holds (valueAt m n) = false

/-- R10: a check fails for the record of a kind (FEEDER 1, SECTION 2, GATE 4, POINT 5, as R189 numbers them) and index. The checks
of feeders look at enabled ones, those of points at fitted ones, those of gates at used ones. -/
def Topology.Fails (T : Topology) (kind index check : Nat) : Prop :=
  (kind = 1 ∧ ∃ f : FeederNo, f.val = index ∧ (T.feeders[f]).enabled = true ∧
    ((check = 1 ∧ (T.feeders[f]).sec = none) ∨
     (check = 2 ∧ ∃ c : SectionNo, (T.feeders[f]).sec = some c ∧ f ∉ T.lists[c]))) ∨
  (kind = 2 ∧ check = 3 ∧ ∃ c : SectionNo, c.val = index ∧ ∃ f ∈ T.lists[c], (T.feeders[f]).sec ≠ some c) ∨
  (kind = 5 ∧ ∃ (p : PointNo) (t : PointTopo), p.val = index ∧ t = T.points[p] ∧ t.fitted = true ∧
    ((check = 4 ∧ (t.leg0 = t.leg1 ∨ t.leg0 = t.approach ∨ t.leg1 = t.approach)) ∨
     (check = 5 ∧ ∃ q < p, (T.points[q]).fitted = true ∧ (T.points[q]).approach = t.approach) ∨
     (check = 6 ∧ T.gates[t.entry] ≠ ⟨.entry, some t.approach, some t.approach⟩) ∨
     (check = 7 ∧ (T.gates[t.exit0] ≠ ⟨.exit0, some t.approach, some t.leg0⟩ ∨
       T.gates[t.exit1] ≠ ⟨.exit1, some t.approach, some t.leg1⟩)) ∨
     (check = 8 ∧ ∃ q < p, (T.points[q]).fitted = true ∧
       ∃ g ∈ [(T.points[q]).entry, (T.points[q]).exit0, (T.points[q]).exit1], g ∈ [t.entry, t.exit0, t.exit1]))) ∨
  (kind = 4 ∧ ∃ g : GateNo, g.val = index ∧
    ((check = 9 ∧ (T.gates[g]).role = .plain ∧ (T.gates[g]).src = (T.gates[g]).dst) ∨
     (check = 10 ∧
       (((T.gates[g]).role = .entry ∧ ∀ p : PointNo, (T.points[p]).fitted = true → (T.points[p]).entry ≠ g) ∨
        ((T.gates[g]).role = .exit0 ∧ ∀ p : PointNo, (T.points[p]).fitted = true → (T.points[p]).exit0 ≠ g) ∨
        ((T.gates[g]).role = .exit1 ∧ ∀ p : PointNo, (T.points[p]).fitted = true → (T.points[p]).exit1 ≠ g))) ∨
     (check = 11 ∧ (T.gates[g]).role = .plain ∧
       ∃ p : PointNo, (T.points[p]).fitted = true ∧ (T.gates[g]).src = some (T.points[p]).approach) ∨
     (check = 12 ∧ (T.gates[g]).role = .plain ∧ (T.gates[g]).src ≠ none ∧
       ∃ h < g, (T.gates[h]).role = .plain ∧ (T.gates[h]).src = (T.gates[g]).src)))

/-- R10: the active topology passes every validity check. -/
def TopologyValid (s : State) : Prop := ∀ kind index check, ¬s.topo.Fails kind index check

/-- R2: no section list of a topology names more than two feeders. -/
def Topology.Paired (T : Topology) : Prop := ∀ c : SectionNo, (T.lists[c]).length ≤ 2

/-- R2: so it is of the active topology, of the working and the stored set, and of the copy a store writes. -/
def ListsPaired (s : State) : Prop :=
  s.topo.Paired ∧ s.sst.working.topology.Paired ∧ s.sst.stored.topology.Paired ∧
    ∀ j ∈ s.sst.job, j.copy.topology.Paired

/-- The place of a record kind in the order of R10: feeders, sections, points, gates. -/
def checkOrder (kind : Nat) : Nat := if kind = 1 then 0 else if kind = 2 then 1 else if kind = 5 then 2 else 3

/-- R10: the check of one record is taken no later than the check of another. -/
def NoLater (kind index check kind' index' check' : Nat) : Prop :=
  checkOrder kind < checkOrder kind' ∨
    (kind = kind' ∧ (index < index' ∨ (index = index' ∧ check ≤ check')))

/-- R11: a feeder whose enabled, section or group field differs between the working and the active topology is in service. -/
def InService (s : State) (f : FeederNo) : Prop :=
  (s.feederSet f).topo ≠ s.topo.feeders[f] ∧ (s.topo.feeders[f]).enabled = true ∧
    (s.breaker f).state ≠ .opened ∧ (s.breaker f).state ≠ .lockedOut ∧ (s.breaker f).state ≠ .stuck

/-! ## What the end of an event can touch -/

/-- The parts the end of an event can touch besides notices: feeders, sections, lockouts, the mode (the end of DRAINING),
points. -/
def settleParts : List Part := [.breakers, .sections, .lockouts, .mode, .points]

/-- The parts a measurement can touch. -/
def measuredParts : List Part :=
  [.link, .scan, .protection, .breakers, .trips, .lockouts, .sections, .vehicles, .mode, .points]

/-- What is never changed of a point at the end of an event: it may start to move, derive its aspect and mark its head. -/
structure PointStands (s t : State) (p : PointNo) : Prop where
  unfitted : s.fitted p = false → t.point p = s.point p
  state : (t.point p).state = (s.point p).state ∨ ((s.point p).state = .set ∧ (t.point p).state = .moving)
  leg : (t.point p).state = (s.point p).state → (t.point p).leg = (s.point p).leg
  timers : (t.point p).state = (s.point p).state →
    (t.point p).moveTimer = (s.point p).moveTimer ∧ (t.point p).arrivalWait = (s.point p).arrivalWait ∧
    (t.point p).detectionWait = (s.point p).detectionWait ∧ (t.point p).proving.phase = (s.point p).proving.phase
  failure : (t.point p).failure = (s.point p).failure
  confirmed : (t.point p).confirmed = (s.point p).confirmed
  queue : (t.point p).queue.map (fun e => (e.slot, e.leg, e.source)) = (s.point p).queue.map fun e => (e.slot, e.leg, e.source)
  reservations : (t.point p).reservations = (s.point p).reservations
  route : (t.point p).route = (s.point p).route
  proofDemand : (t.point p).proofDemand = (s.point p).proofDemand
  serviceOut : (t.point p).serviceOut = (s.point p).serviceOut
  level : (t.point p).proving.level = (s.point p).proving.level
  proofTime : (t.point p).proving.proofTime = (s.point p).proving.proofTime
  request : (t.point p).proving.request = (s.point p).proving.request
  proofs : (t.point p).proving.proofs = (s.point p).proving.proofs

/-- From `s` to `t` nothing has changed but the parts in `l`, the feeders in `fs`, the points in `ps`, notices, and what the end of
an event takes up (R62, R69, R133, R138, R139, R152, R154, R174): feeders in DEAD_TIME or CLOSING, the fed flags and conditions
of sections, the end of DRAINING, movements, aspects and marks. -/
structure Settles (l : List Part) (fs : List FeederNo) (ps : List PointNo) (s t : State) : Prop where
  kept : KeptBut (.link :: (settleParts ++ l)) s t
  mode : t.sst.mode = s.sst.mode ∨ (s.sst.mode = .draining ∧ t.sst.mode = .configure)
  feeders : ∀ g, g ∉ fs → (s.breaker g).state ≠ .deadTime → (s.breaker g).state ≠ .closing →
    t.breaker g = s.breaker g ∧ t.lockout g = s.lockout g
  sections : ∀ c, (t.sec c).live = (s.sec c).live ∧ (t.sec c).voltage = (s.sec c).voltage ∧ (t.sec c).liveCount = (s.sec c).liveCount
  points : ∀ p, p ∉ ps → PointStands s t p

/-- An intertripped feeder follows a partner that is LOCKED_OUT (R59). -/
def FollowsLocked (s : State) (f : FeederNo) : Prop :=
  (s.breaker f).follows = true ∧ ∃ g ∈ s.topo.partner f, (s.breaker g).state = .lockedOut

/-- A feeder is back in DEAD_TIME, expired, no attempt counted, `j` its last judged test (R62): it waits, READY absent with its ready
wait running, or is locked out where T_ready is 0. -/
def WaitsExpired (s t : State) (f : FeederNo) (j : Option Judged) : Prop :=
  if s.ready f = false ∧ (s.feederSet f).tReady = 0 then t.breaker f = .rest .lockedOut j ∧ t.lockout f = some .notReady
  else (t.breaker f).state = .deadTime ∧ (t.breaker f).expired = true ∧ (t.breaker f).test = .idle ∧
    (t.breaker f).attempts = (s.breaker f).attempts ∧ t.lockout f = s.lockout f ∧
    (t.breaker f).readyWait = (if s.ready f = true then none else some (later s.now (s.feederSet f).tReady))

/-- A feeder returns from TESTING to DEAD_TIME, expired (R62, R67, R68). One that follows a LOCKED_OUT partner is locked out with
PARTNER (R59). -/
def Returns (s t : State) (f : FeederNo) (j : Option Judged) : Prop :=
  (FollowsLocked s f → t.breaker f = .rest .lockedOut j ∧ t.lockout f = some .partner) ∧
  (¬FollowsLocked s f → WaitsExpired s t f j)

/-- A feeder's entry to LOCKED_OUT takes a partner in DEAD_TIME along, expired or not, with cause PARTNER: its follower (R63), or one
it intertripped (R59). -/
def TakesAlong (s t : State) (f : FeederNo) : Prop :=
  ∀ g ∈ s.topo.partner f, (s.breaker g).state = .deadTime → s.topo.leadOf g = some f ∨ (s.breaker g).follows = true →
    t.breaker g = .rest .lockedOut (s.breaker g).judged ∧ t.lockout g = some .partner ∧
    Raises s t (.lockout g .partner (s.breaker g).attempts)

/-- A feeder enters CLOSED in the event that leads from `s` to `t`, and its partner `g` is in TESTING (R68, first row): the test is
abandoned and `g` makes a live close, under the holds of R67 but BACKFEED, which the closing of the partner clears (R82), or, in a
host test, under the conditions of R72. -/
def LiveCloses (s t : State) (g : FeederNo) : Prop :=
  if (s.breaker g).automatic = true then
    ((∀ h ∈ s.holdsButPartner g, h = .backfeed) →
      (t.breaker g).state = .closing ∧ (t.breaker g).automatic = true ∧ (t.breaker g).closeOut = true ∧ (t.breaker g).test = .idle ∧
      (t.breaker g).attempts = (s.breaker g).attempts + 1 ∧ t.lockout g = s.lockout g ∧
      (t.breaker g).closeTimer = some (later s.now (s.feederSet g).tCloseConf)) ∧
    ((∃ h ∈ s.holdsButPartner g, h ≠ .backfeed) → WaitsExpired s t g (s.breaker g).judged)
  else if s.sst.mode = .run ∧ (∀ c ∈ s.topo.feederSection g, s.locks c = []) ∧
      (s.protection g).heat ≤ (s.feederSet g).hReclose ∧ s.ready g = true then
    (t.breaker g).state = .closing ∧ (t.breaker g).automatic = false ∧ (t.breaker g).closeOut = true ∧ (t.breaker g).test = .idle ∧
    (t.breaker g).attempts = (s.breaker g).attempts ∧ t.lockout g = s.lockout g ∧
    (t.breaker g).closeTimer = some (later s.now (s.feederSet g).tCloseConf)
  else t.breaker g = .rest .opened (s.breaker g).judged ∧ t.lockout g = s.lockout g ∧ Raises s t (.testFail g .abandoned none)

/-- The lead of a feeder, if it is a follower, is not LOCKED_OUT. Where the feeder has a lead the topology is to be valid, so that
no end of the event locks that lead out in its turn. -/
def LeadNotLocked (s : State) (f : FeederNo) : Prop :=
  s.topo.leadOf f = none ∨ (TopologyValid s ∧ ∀ lead ∈ s.topo.leadOf f, (s.breaker lead).state ≠ .lockedOut)

/-- A feeder that waited in DEAD_TIME goes on (R62, R63, R64): it follows a lead that is LOCKED_OUT, makes a live close, or
starts an automatic test. -/
def Resumes (s t : State) (f : FeederNo) : Prop :=
  if ∃ lead ∈ s.topo.leadOf f, (s.breaker lead).state = .lockedOut then
    t.breaker f = .rest .lockedOut (s.breaker f).judged ∧ t.lockout f = some .partner
  else
    t.lockout f = s.lockout f ∧ (t.breaker f).automatic = true ∧ (t.breaker f).deadTimer = none ∧ (t.breaker f).readyWait = none ∧
    if (∃ g ∈ s.topo.partner f, (s.breaker g).state = .closed) ∧ (∃ c ∈ s.topo.feederSection f, (s.sec c).live = true) then
      (t.breaker f).state = .closing ∧ (t.breaker f).closeOut = true ∧ (t.breaker f).attempts = (s.breaker f).attempts + 1 ∧
      (t.breaker f).closeTimer = some (later s.now (s.feederSet f).tCloseConf)
    else (t.breaker f).state = .testing ∧ (t.breaker f).test = .settle 0 ∧ (t.breaker f).attempts = (s.breaker f).attempts

/-! ## Vehicles at gates and entries -/

/-- R108, R109: the record an engagement of a gate applies to: the head of its from-queue, or at an ENTRY gate the record behind
those of the point's zone queue. -/
def engagedBy (s : State) (g : GateNo) : Option SlotNo :=
  match (s.topo.gates[g]).role with
  | .entry => (s.topo.entryPoint g).bind fun p => (s.queue (s.topo.points[p]).approach)[(s.point p).queue.length]?
  | .plain | .exit0 | .exit1 => (s.topo.gates[g]).src.bind fun a => (s.queue a).head?
  | .unused => none

/-- R108: the account once a record has taken a gate as its engaged gate, no other record keeping it. -/
def Vtr.takes (v : Vtr) (n : SlotNo) (g : GateNo) (now : Time) : Vtr :=
  { v with slots := Vector.ofFn fun m : SlotNo => (v.slots[m]).map fun r =>
      if m = n then { r with gate := some g, lastActivity := now }
      else if r.gate = some g then { r with gate := none } else r }

/-- R111: the account once no record holds a gate. -/
def Vtr.drops (v : Vtr) (g : GateNo) : Vtr :=
  { v with slots := Vector.ofFn fun m : SlotNo => (v.slots[m]).map fun r =>
      if r.gate = some g then { r with gate := none } else r }

/-- R103: a fresh record of a vehicle in a segment. -/
def freshRecord (now : Time) (fleet : Option Nat) (g : SegmentNo) (flag : CurrentFlag) : Vehicle where
  fleet := fleet
  segment := g
  gate := none
  entryTime := now
  lastActivity := now
  lastFlag := flag
  suspicion := 0
  flags := ⟨false, false, false, false, false, false⟩
  decay := none

/-- R96, R98, R100: the deactivation of a contact ends a passage: the other contact is idle, the gate is not settling, and it is in
HELD, or in ENGAGED with both contacts seen. -/
def PassageEnds (s : State) (g : GateNo) (c : Contact) : Prop :=
  (s.gate g).settling = false ∧
    (((s.gate g).state = .engaged ∧ (s.gate g).posSeen = true ∧ (s.gate g).negSeen = true) ∨ (s.gate g).state = .held) ∧
    (match c with
      | .positive => (s.gate g).negLevel = false
      | .negative => (s.gate g).posLevel = false)

/-- R97: the pole a gate misses when its pole timer expires with one contact seen. -/
def GateRec.lacks (r : GateRec) : Missing := if r.posSeen then .negative else .positive

/-- R97: a gate's record once its pole timer has expired with one contact seen. -/
def GateRec.missed (r : GateRec) : GateRec := { r with state := .held, missing := r.lacks, poleTimer := none }

/-- R111: the PASSAGE notice of a gate's passage, `done` being what the completion found. -/
def passageOf (s : State) (g : GateNo) (missing : Missing) (done : Passed) : NoticeBody :=
  .passage g (s.topo.gates[g]).src (s.topo.gates[g]).dst done.vehicle done.untracked (s.gate g).flag missing (s.gate g).engagedAt
    s.now done.stay

/-- R109: from `v` to `v'` the record that holds an ENTRY gate has given it up, its passage complete. -/
def GivesUp (v v' : Vtr) (g : GateNo) (flag : CurrentFlag) (now : Time) : Prop :=
  ((∀ (n : SlotNo) (r : Vehicle), v.slots[n] = some r → r.gate ≠ some g) → v' = v) ∧
  ∀ (n : SlotNo) (r : Vehicle), v.slots[n] = some r → r.gate = some g →
    (∀ (m : SlotNo) (w : Vehicle), m < n → v.slots[m] = some w → w.gate ≠ some g) →
    v' = { v.drops g with slots := (v.drops g).slots.set n (some { r with gate := none, lastActivity := now, lastFlag := flag }) }

/-- The exit of a vehicle over leg `leg` of a point has been handed on (R136, R137) and the event is over. `u` is the state once the
tracker has moved the approach's head, `s` the state before the event, `placed` the record put on the leg. The head of the zone
queue leaves it, a leg other than its own being laid on it as WRONG_LEG; with the zone queue empty and confirmed ENTRY_MISSED is
raised. A leg other than the head's, or than the set leg of a SET point, sets proof demand. -/
def ExitTaken (s u t : State) (g : GateNo) (p : PointNo) (leg : Leg) (placed : Option Candidate) : Prop :=
  (∀ e rest demand, (s.point p).queue = e :: rest →
    demand = decide (leg ≠ e.leg ∨ ((s.point p).state = .set ∧ leg ≠ (s.point p).leg)) →
    t.vtr = (if leg = e.leg then u else u.applyFault e.slot (.wrongLeg p leg)).vtr ∧
    PointStands (s.setPoint p { s.point p with
      queue := rest, proofDemand := (s.point p).proofDemand || demand
      proving := { (s.point p).proving with phase :=
        if demand = true ∧ (s.point p).proving.phase = .returnWait then .idle else (s.point p).proving.phase } }) t p) ∧
  (∀ demand, (s.point p).queue = [] → demand = decide ((s.point p).state = .set ∧ leg ≠ (s.point p).leg) →
    t.vtr = u.vtr ∧ ((s.point p).confirmed = true → Raises s t (.entryMissed p g leg placed s.now)) ∧
    PointStands (s.setPoint p { s.point p with
      proofDemand := (s.point p).proofDemand || demand
      proving := { (s.point p).proving with phase :=
        if demand = true ∧ (s.point p).proving.phase = .returnWait then .idle else (s.point p).proving.phase } }) t p)

/-- R92: a stability wait has come with the contact's input at a level other than the accepted one. -/
def Accepts (s : State) (g : GateNo) (c : Contact) (active : Bool) : Prop :=
  isDue s.now (s.stability g c) = true ∧ s.contactInput g c = active ∧ s.acceptedLevel g c ≠ active

/-- R130: the leg and the source of an admitted entry. -/
def RouteTaken (s : State) (p : PointNo) (flag : CurrentFlag) (leg : Leg) (source : Source) : Prop :=
  match (s.point p).route, (s.point p).reservations.head?.bind fun q => q.leg with
  | .fixed l, _ => leg = l ∧ source = .override
  | .auto, some l => leg = l ∧ source = .tag
  | .auto, none =>
    if (s.pointSet p).currentOn = false then leg = (s.pointSet p).defaultLeg ∧ source = .default
    else if (s.sec (s.topo.segments)[(s.topo.points[p]).approach]).live = false then
      leg = (s.pointSet p).defaultLeg ∧ source = .undetermined
    else match flag with
      | .drawing => leg = (s.pointSet p).powerLeg ∧ source = .current
      | .coasting => leg = (s.pointSet p).powerLeg.other ∧ source = .current
      | .unknown => leg = (s.pointSet p).defaultLeg ∧ source = .undetermined

/-- An entry report of a point has been taken (R129–R131) and the event is over. `u` is the state when the report is made, `s` the
state before the event. With the zone unconfirmed the oldest reservation is dropped; with 3 entries ZONE_OVERFULL is raised, and
a SET or MOVING point fails; otherwise the vehicle at the entry is asked for, and joins the zone queue with its route. -/
structure EntryTaken (s u t : State) (p : PointNo) (flag : CurrentFlag) : Prop where
  others : Settles [.gates, .vehicles] [] (List.finRange 16) s t
  unconfirmed : (s.point p).confirmed = false → t.vtr = u.vtr ∧ (∀ q, q ≠ p → PointStands s t q) ∧
    PointStands (s.setPoint p { s.point p with reservations := (s.point p).reservations.tail }) t p
  overfull : (s.point p).confirmed = true → 3 ≤ (s.point p).queue.length → t.vtr = u.vtr ∧
    Raises s t (.zoneOverfull p (s.topo.points[p]).approach ((s.queue (s.topo.points[p]).approach)[3]?) s.now) ∧
    (∀ q, q ≠ p → PointStands s t q) ∧
    ((s.point p).state = .set ∨ (s.point p).state = .moving → PointStands (s.setPoint p { s.point p with
      state := if (s.point p).serviceOut then .outOfService else .failed
      failure := if (s.point p).serviceOut then none else some .overfull
      serviceOut := false, moveTimer := none, arrivalWait := none, detectionWait := none
      proving := { (s.point p).proving with phase := .idle } }) t p) ∧
    ((s.point p).state ≠ .set → (s.point p).state ≠ .moving → PointStands s t p)
  taken : (s.point p).confirmed = true → (s.point p).queue.length < 3 →
    ∀ w answer, u.vehicleAtEntry p ((s.point p).reservations.head?.map fun q => q.fleet) flag = (answer, w) →
      t.vtr = w.vtr ∧ (∃ more, t.lnk = (w.lnk.says s.now more).begin) ∧ (∀ q, q ≠ p → PointStands w t q) ∧
      match answer with
      | none => PointStands (w.setPoint p { w.point p with reservations := (s.point p).reservations.tail }) t p
      | some n => ∃ leg source, RouteTaken s p flag leg source ∧
          PointStands (w.setPoint p { w.point p with
            reservations := (s.point p).reservations.tail
            queue := (w.point p).queue ++ [⟨n, leg, source, none, none⟩]
            proving := { (w.point p).proving with
              phase := if (w.point p).proving.phase = .returnWait then .idle else (w.point p).proving.phase } }) t p

/-! ## Trips -/

/-- A measurement makes a feeder trip (R31, R43, R54): it is enabled, CLOSED or CLOSING, and its step gives a real decision. -/
def TripsOn (s : State) (m : Measurement) (f : FeederNo) (c : Chosen) : Prop :=
  s.enabled f = true ∧ ((s.breaker f).state = .closed ∨ (s.breaker f).state = .closing) ∧ (s.stepOf m f).real = some c

/-- A feeder is locked out, with the notice of it, the event going on. -/
def LocksOut (s t : State) (f : FeederNo) (why : LockoutCause) : Prop :=
  t.breaker f = .rest .lockedOut (s.breaker f).judged ∧ t.lockout f = some why ∧
  ∃ before after, t.lnk = s.lnk.says s.now (before ++ .lockout f why (s.breaker f).attempts :: after)

/-- A feeder trips with AUX already open: the opening is confirmed at once (R54, R56). `taken` is whether a partner that it follows is
LOCKED_OUT by the end of it (R59, R63). -/
def OpensAtOnce (s t : State) (f : FeederNo) (cause : TripCause) (limit : Nat) (taken : Prop) : Prop :=
  (cause = .reverse → LocksOut s t f .reverse) ∧
  (cause ≠ .reverse → limit ≤ (s.breaker f).attempts → LocksOut s t f .noReclose) ∧
  (cause ≠ .reverse → (s.breaker f).attempts < limit →
    (taken → LocksOut s t f .partner) ∧
    (¬taken → t.lockout f = s.lockout f ∧ (t.breaker f).state = .deadTime ∧ (t.breaker f).expired = false ∧
      (t.breaker f).inSequence = true ∧ (t.breaker f).closeOut = false ∧ (t.breaker f).attempts = (s.breaker f).attempts ∧
      (t.breaker f).openTimer = none ∧ (t.breaker f).deadTimer = some (later s.now (s.feederSet f).tDead)))

/-- The lead of a feeder is intertripped by the feeder's own trip, and its opening, confirmed at once too, locks it out (R56, R59). -/
def LeadLocksOut (s : State) (f : FeederNo) (cause : TripCause) : Prop :=
  (cause = .inst ∨ cause = .delta ∨ cause = .reverse) ∧
  ∃ g, s.topo.leadOf f = some g ∧ s.topo.partner f = some g ∧ s.topo.partner g = some f ∧
    ((s.breaker g).state = .closed ∨ (s.breaker g).state = .closing) ∧ s.aux g = false ∧
    s.effectiveLimit g ≤ (s.breaker g).attempts

/-- A feeder has taken the trip of a measurement (R54, R56, R75, R164, R165, R167), and the event is over. Where no feeder whose partner
it is gave a decision on the same measurement, the trip is its own decision and no intertrip. -/
def TripTaken (s t : State) (m : Measurement) (f : FeederNo) (c : Chosen) : Prop :=
  (t.breaker f).closeOut = false ∧ t.tripCount f = min 255 (s.tripCount f + 1) ∧
  (s.aux f = true →
    (t.breaker f).state = .opening ∧ t.tripLine f = true ∧
    (t.breaker f).openTimer = some (later s.now (s.feederSet f).tOpenConf) ∧ (t.breaker f).attempts = (s.breaker f).attempts) ∧
  (s.aux f = false →
    ((t.breaker f).state = .lockedOut ∧ t.lockout f ≠ none ∨ (t.breaker f).state = .deadTime ∧ (t.breaker f).expired = false ∧
      (t.breaker f).attempts = (s.breaker f).attempts ∧ (t.breaker f).attempts < t.effectiveLimit f ∧
      (t.breaker f).deadTimer = some (later s.now (s.feederSet f).tDead))) ∧
  ((∀ g, s.topo.partner g = some f → (s.stepOf m g).real = none) →
    (s.aux f = true → (t.breaker f).cause = .trip c.cause) ∧
    (s.aux f = false →
      (c.cause = .reverse → t.lockout f = some .reverse) ∧
      (c.cause ≠ .reverse → (s.feederSet f).nReclose ≤ (s.breaker f).attempts → t.lockout f = some .noReclose)) ∧
    ∃ r replaced, Raises s t (.trip f r replaced) ∧ r.cause = c.cause ∧ r.time = s.now ∧ r.peak = some c.peak ∧ r.sat = c.sat ∧
      r.delta = c.delta ∧ r.heat = (s.stepOf m f).record.heat ∧ r.attempt = (s.breaker f).attempts ∧
      (replaced = true ↔ ∀ held, s.trip f = some held → held.cause.severity < c.cause.severity) ∧
      t.trip f = (if replaced = true then some r else s.trip f) ∧
      match s.topo.feederSection f, decide (c.cause = .inst ∨ c.cause = .delta ∨ c.cause = .reverse) with
      | some sec, true =>
          r.candidates = (s.attribute f sec s.now).1.candidates ∧ r.total = (s.attribute f sec s.now).1.total ∧
          r.suspect = (s.attribute f sec s.now).1.suspect ∧
          ((s.breaker f).limited = true ∨ (s.attribute f sec s.now).1.faultedPresent = true →
            (t.breaker f).state = .lockedOut ∨ (t.breaker f).limited = true)
      | _, _ => r.candidates = [] ∧ r.total = 0 ∧ r.suspect = none ∧
          ((t.breaker f).state = .lockedOut ∨ (t.breaker f).limited = (s.breaker f).limited))

/-! ## Sections -/

/-- R81: every fed flag says whether some enabled feeder of its section is CLOSED. -/
def FedFlagsTrue (s : State) : Prop :=
  ∀ c, ((s.sec c).fed = true ↔ ∃ f ∈ s.topo.enabledFeeders c, (s.breaker f).state = .closed)

/-- R79: the highest line voltage of a section's enabled feeders in a measurement. -/
def lineMax (s : State) (c : SectionNo) (m : Measurement) : Nat :=
  ((s.topo.enabledFeeders c).map fun f => m.line[f]).foldr max 0

/-- R79: the live count after a reading. -/
def liveAfter (set : SectionSet) (r : SectionRec) (v : Nat) : Nat := if set.uLive ≤ v then min 10 (r.liveCount + 1) else 0

/-- R79: the dead count after a reading. -/
def deadAfter (set : SectionSet) (r : SectionRec) (v : Nat) : Nat :=
  if set.uLive ≤ v then 0 else if v ≤ set.uDead then min 10 (r.deadCount + 1) else 0

/-- R80: the energy state after a reading: LIVE at a live count of 10, DEAD at a dead count of 10. -/
def energyAfter (set : SectionSet) (r : SectionRec) (v : Nat) : Bool :=
  if r.live then decide (deadAfter set r v ≠ 10) else decide (liveAfter set r v = 10)

/-! ## Resets -/

/-- The state right after a reset of `s` (R13, R28, R50, R76, R77, R91, R100, R123, R146, R157, R176, R178, R179, R188), the RESET
notice in transmission. `kept` is whether the retained area passed its check and its backup supply held. -/
structure ResetDone (s t : State) (cause : ResetCause) (kept rate0 rate1 : Bool) : Prop where
  now : t.now = 0
  powered : t.powered = true
  pins : t.pins = { s.pins with rate0 := rate0, rate1 := rate1 }
  queue : t.pending = s.pending
  rate : t.lnk.rate = match rate0, rate1 with
    | false, false => .baud57600
    | true, false => .baud115200
    | false, true => .baud230400
    | true, true => .baud460800
  requests : t.lnk.rx = [] ∧ t.lnk.requests = [] ∧ t.lnk.replySlot = none ∧ t.lnk.restart = .none
  notices : t.lnk.transmitting = some (.notice ⟨.reset cause kept s.sst.storedValid t.sst.mode 0, .event, 0⟩ false) ∧
    t.lnk.overflow = false ∧ t.lnk.eventEnabled = true ∧ t.lnk.infoEnabled = true
  watch : t.lnk.watchSet = [] ∧ t.lnk.watchTimer = none
  counts : t.lnk.linkErrors = 0 ∧ t.lnk.overruns = 0
  store : t.sst.job = none ∧ t.sst.stored = s.sst.stored ∧ t.sst.storedValid = s.sst.storedValid ∧ t.sst.cause = cause ∧
    t.sst.retentionValid = kept
  working : t.sst.working = (if s.sst.storedValid then s.sst.stored else .factory) ∧
    t.sst.workingGen = (if s.sst.storedValid then s.sst.storedWorkingGen else 0) ∧
    t.sst.topologyGen = (if s.sst.storedValid then s.sst.storedTopologyGen else 0)
  topology : if s.sst.storedValid = true ∧ s.sst.stored.topology.firstFailure = none
    then t.sst.active = s.sst.stored.topology ∧ t.sst.mode = .run
    else t.sst.active = .factory ∧ t.sst.mode = .configure ∧ t.sst.notedGen = t.sst.topologyGen
  retained : if kept = true then t.ret.locks = s.ret.locks ∧ t.ret.trips = s.ret.trips ∧ t.ret.tripCounts = s.ret.tripCounts ∧
      ∀ f, t.lockout f = if (t.breaker f).state = .closed then none else s.lockout f
    else ∀ f c, t.locks c = [0] ∧ t.trip f = none ∧ t.tripCount f = 0 ∧ t.lockout f = none
  scan : t.scp = .reset
  feeders : ∀ f, t.breaker f = .rest
      (if (t.topo.feeders[f]).enabled = false then .opened else if s.aux f then .closed
        else if kept = true ∧ s.lockout f ≠ none then .lockedOut else .opened) none
  protection : ∀ f, t.protection f =
    .start (t.feederSet f).hReclose (if (t.breaker f).state = .closed then (t.feederSet f).nMask else 0)
  latches : t.bsq.latchA = false ∧ t.bsq.latchB = false
  sections : ∀ c, t.sec c = .start ((t.topo.enabledFeeders c).any fun f => (t.breaker f).state == .closed)
  gates : ∀ g, (t.gate g).posLevel = s.pins.positive[g] ∧ (t.gate g).negLevel = s.pins.negative[g] ∧ (t.gate g).poleTimer = none ∧
    (t.gate g).stuck = false ∧
    if t.topo.isUsed g = true ∧ (s.pins.positive[g] = true ∨ s.pins.negative[g] = true)
    then (t.gate g).state = .engaged ∧ (t.gate g).settling = true ∧ (t.gate g).stuckTimer = some (later 0 (t.gateSet g).tStuck)
    else (t.gate g).state = .armed ∧ (t.gate g).settling = false ∧ (t.gate g).stuckTimer = none
  vehicles : t.vtr = .empty
  tags : t.ptc.rx = []
  points : ∀ p, if t.fitted p = false then t.point p = .unfitted else
    (t.point p).queue = [] ∧ (t.point p).reservations = [] ∧ (t.point p).confirmed = false ∧ (t.point p).route = .auto ∧
    (t.point p).proofDemand = false ∧ (t.point p).proving = .start 0 ∧
    match s.provenLeg p with
    | some l => (t.point p).state = .unknown ∧ (t.point p).leg = l
    | none => (t.point p).state = .failed ∧ (t.point p).failure = some .detection

/-! ## A new topology -/

/-- A gate whose topology record changes loses its passage in flight (R12, R100). -/
def losesPassage (s t : State) (g : GateNo) : Bool :=
  decide (s.topo.gates[g] ≠ t.topo.gates[g]) && decide ((s.gate g).state ≠ .armed) && !(s.gate g).settling

/-- R100, R110: the account once no record holds any of the gates of which `lost` is true. -/
def Vtr.withdraw (v : Vtr) (lost : GateNo → Bool) : Vtr :=
  { v with slots := Vector.ofFn fun n : SlotNo => (v.slots[n]).map fun r => if r.gate.any lost then { r with gate := none } else r }

/-- The tracking is to be cleared at the change to RUN (R12). -/
def TracksStale (s : State) : Prop := s.sst.topologyGen ≠ s.sst.notedGen ∨ s.sst.active = .factory

/-- A point put to rest by a change of topology (R12, R155): its zone queue and reservations emptied, unconfirmed, its drives off, UNKNOWN
at the leg its detectors prove, or FAILED. A point that was FAILED keeps its cause (R124); DETECTION for any other is the model's
choice (assumption log 15). -/
def RestsNow (s t : State) (p : PointNo) : Prop :=
  (t.point p).queue = [] ∧ (t.point p).reservations = [] ∧ (t.point p).confirmed = false ∧ (t.point p).moveTimer = none ∧
  (t.point p).arrivalWait = none ∧ (t.point p).detectionWait = none ∧
  match s.provenLeg p with
  | some l => (t.point p).state = .unknown ∧ (t.point p).leg = l ∧ (t.point p).failure = none
  | none => (t.point p).state = .failed ∧ (t.point p).failure =
      if s.fitted p = true ∧ (s.point p).state = .failed ∧ (s.point p).failure ≠ none then (s.point p).failure else some .detection

/-- What the making active of another topology has done to the state, and the end of the event with it (R12, R51, R76, R91, R100, R155,
R157). Feeders that wait expired in DEAD_TIME, and CLOSE outputs, are taken up by the end of the event. -/
structure Activated (s t : State) : Prop where
  becomesEnabled : ∀ f, (s.topo.feeders[f]).enabled = false → (t.topo.feeders[f]).enabled = true →
    t.breaker f = .rest (if s.aux f then .closed else if s.lockout f = none then .opened else .lockedOut) (s.breaker f).judged ∧
    t.lockout f = (if s.aux f then none else s.lockout f) ∧
    t.protection f = .start (s.feederSet f).hReclose (if s.aux f then (s.feederSet f).nMask else 0)
  becomesDisabled : ∀ f, (s.topo.feeders[f]).enabled = true → (t.topo.feeders[f]).enabled = false →
    t.breaker f = .rest .opened (s.breaker f).judged ∧ t.lockout f = s.lockout f ∧ (t.injection f).pattern = .none ∧
    (t.protection f).heat = (s.protection f).heat ∧ (t.protection f).mask = (s.protection f).mask ∧
    ((s.injection f).pattern = .none → t.protection f = s.protection f)
  stays : ∀ f, (s.topo.feeders[f]).enabled = (t.topo.feeders[f]).enabled →
    t.protection f = s.protection f ∧ t.injection f = s.injection f ∧
    ((s.breaker f).state ≠ .closing →
      ((s.breaker f).state = .deadTime → (s.breaker f).expired = false ∨ (t.breaker f).state = .deadTime) →
      t.breaker f = s.breaker f ∧ t.lockout f = s.lockout f) ∧
    ((s.breaker f).state = .closing → { t.breaker f with closeOut := (s.breaker f).closeOut } = s.breaker f)
  scan : { t.scp with injection := s.scp.injection } = s.scp
  unfed : ∀ c, t.topo.enabledFeeders c = [] → t.sec c = .start false
  fed : ∀ c, ((t.sec c).fed = true ↔ ∃ f ∈ t.topo.enabledFeeders c, (t.breaker f).state = .closed)
  supplied : ∀ c, t.topo.enabledFeeders c ≠ [] →
    (t.sec c).live = (s.sec c).live ∧ (t.sec c).voltage = (s.sec c).voltage ∧ (t.sec c).liveCount = (s.sec c).liveCount
  sameGate : ∀ g, s.topo.gates[g] = t.topo.gates[g] → t.gate g = s.gate g
  changedGate : ∀ g, s.topo.gates[g] ≠ t.topo.gates[g] →
    t.gate g = (if t.topo.isUsed g = true ∧ (s.pins.positive[g] = true ∨ s.pins.negative[g] = true)
      then { GateRec.armed s.pins.positive[g] s.pins.negative[g] with
        state := .engaged, settling := true, engagedAt := s.now, stuckTimer := some (later s.now (s.gateSet g).tStuck) }
      else GateRec.armed s.pins.positive[g] s.pins.negative[g])
  tracking : TracksStale s → t.vtr = .empty
  passages : ¬TracksStale s → t.vtr = s.vtr.withdraw (losesPassage s t)
  becomesUnfitted : ∀ p, s.fitted p = true → t.fitted p = false → t.point p = .unfitted
  staysUnfitted : ∀ p, s.fitted p = false → t.fitted p = false → t.point p = s.point p
  changedPoint : ∀ p, t.fitted p = true → s.topo.points[p] ≠ t.topo.points[p] →
    RestsNow s t p ∧ (t.point p).proving = .start s.now
  samePoint : ¬TracksStale s → ∀ p, s.topo.points[p] = t.topo.points[p] → PointStands s t p
  clearedPoint : TracksStale s → ∀ p, t.fitted p = true → s.topo.points[p] = t.topo.points[p] →
    (t.point p).proving.level = (s.point p).proving.level ∧ (t.point p).proving.proofTime = (s.point p).proving.proofTime ∧
    if (s.point p).state = .outOfService
      then (t.point p).state = .outOfService ∧ (t.point p).queue = [] ∧ (t.point p).reservations = [] ∧ (t.point p).confirmed = false
      else RestsNow s t p

/-! ## What a safe part keeps -/

/-- R180, R181, R187: what the link holds is bounded. -/
def LinkBounded (s : State) : Prop :=
  s.lnk.notices.length ≤ 32 ∧ s.lnk.requests.length ≤ 4 ∧ s.lnk.linkErrors ≤ 65535 ∧ s.lnk.overruns ≤ 65535

/-- R87: a lock list holds at most 4 holders, each 0–250, none twice. -/
def LocksLegal (s : State) : Prop := ∀ c, (s.locks c).length ≤ 4 ∧ (s.locks c).Nodup ∧ ∀ h ∈ s.locks c, h ≤ 250

/-- R69: CLOSE is asserted only while the section holds no lock, H is at or below H_reclose, and, for an automatic close, the
section is not in BACKFEED. -/
def CloseGuarded (s : State) : Prop :=
  ∀ f, s.closeLine f = true →
    s.feederLocked f = false ∧ s.hot f = false ∧ ((s.breaker f).automatic = true → s.feederBackfed f = false)

/-- R133: a drive is energised only while the zone queue is empty or its head carries no proceed-given mark; an entry behind the
head carries none (R138). -/
def DriveGuarded (s : State) : Prop :=
  ∀ p, (∀ e ∈ (s.point p).queue.tail, e.mark = none) ∧
    ((s.point p).state = .moving → ∀ e, (s.point p).queue.head? = some e → e.mark = none)

/-- R105, R106: a segment queue holds at most 8 records, an untracked count is at most 7. -/
def TrackingBounded (s : State) : Prop := ∀ g, (s.queue g).length ≤ 8 ∧ s.untracked g ≤ 7

/-- R128, R129: a zone queue holds at most 3 entries, a reservation list at most 2. -/
def ZonesBounded (s : State) : Prop := ∀ p, (s.point p).queue.length ≤ 3 ∧ (s.point p).reservations.length ≤ 2

/-- R172: in a set of settings every I_max is at most the floor current cap and every reclose limit at most the floor reclose
cap. -/
def Settings.underFloors (w : Settings) : Prop :=
  ∀ f : FeederNo, w.feeders[f].iMax ≤ w.floorCurrent ∧ w.feeders[f].nReclose ≤ w.floorReclose

/-- R172: the working set, the stored set and the copy being stored are under their floor caps. -/
def FloorsUpheld (s : State) : Prop :=
  s.sst.working.underFloors ∧ s.sst.stored.underFloors ∧ ∀ j, s.sst.job = some j → j.copy.underFloors

/-- R40: H never passes 2,147,483,647. -/
def HeatBounded (s : State) : Prop := ∀ f, (s.protection f).heat ≤ 2147483647

/-- R30, R53, R78, R93, R125, R147, R158, R169: every field of every record of a set of settings holds a value of its range. -/
def Settings.inRange (w : Settings) : Prop :=
  ∀ (id : RecordId) (i : Nat) (spec : FieldSpec), id.specs[i]? = some spec →
    spec.range.holds (valueAt (w.values id) (i + 1)) = true

/-- R169: the working set, the stored set and the copy being stored are in range. -/
def SettingsInRange (s : State) : Prop :=
  s.sst.working.inRange ∧ s.sst.stored.inRange ∧ ∀ j, s.sst.job = some j → j.copy.inRange

/-- R61, R64: a test runs only in TESTING, and an enabled feeder is LOCKED_OUT exactly when its lockout is retained. -/
def BreakersSound (s : State) : Prop :=
  ∀ f, ((s.breaker f).test ≠ .idle → (s.breaker f).state = .testing) ∧
    (s.enabled f = true → ((s.breaker f).state = .lockedOut ↔ s.lockout f ≠ none))

/-- R139, R138: in a powered part every fitted point shows the aspect that the first row of the table gives, and a head whose leg is
shown by PROCEED or CAUTION has the proceed-given mark. -/
def AspectsShown (s : State) : Prop :=
  s.powered = true → ∀ p, s.fitted p = true →
    (s.point p).aspect = (match (s.point p).state with
      | .outOfService => .dark
      | .moving => .moving (s.point p).leg
      | .failed => .stop
      | .set | .unknown =>
        if s.provenLeg p ≠ some (s.point p).leg ∨ (∃ e ∈ (s.point p).queue.head?, e.leg ≠ (s.point p).leg) ∨
            s.barred p (s.point p).leg = true ∨ (s.point p).proofDemand = true then .stop
        else if (s.point p).state = .unknown ∨ (s.point p).proving.level = .lapsed ∨
            (∃ e ∈ (s.point p).queue.head?, e.source = .undetermined) then .caution (s.point p).leg
        else .proceed (s.point p).leg) ∧
    ∀ l e, ((s.point p).aspect = .proceed l ∨ (s.point p).aspect = .caution l) → e ∈ (s.point p).queue.head? → e.leg = l →
      e.mark ≠ none

/-- R105: a record stands in exactly one queue, the one of its segment, and once. -/
def QueuesSound (s : State) : Prop :=
  ∀ g, (s.queue g).Nodup ∧ ∀ n, n ∈ s.queue g ↔ ∃ v, s.vehicle n = some v ∧ v.segment = g

/-- R104: no fleet number stands in two records. -/
def FleetsUnique (s : State) : Prop :=
  ∀ m n u v fleet, s.vehicle m = some u → s.vehicle n = some v → u.fleet = some fleet → v.fleet = some fleet → m = n

/-- R132: a fitted point's zone queue holds the first entries of its approach's queue, in the same order. -/
def ZonesLead (s : State) : Prop :=
  ∀ p, s.fitted p = true → (s.point p).queue.map (·.slot) <+: s.queue (s.topo.points[p]).approach

/-- R158: a suspicion is at most 15. -/
def SuspicionBounded (s : State) : Prop := ∀ n v, s.vehicle n = some v → v.suspicion ≤ 15

end Sys2Proof.Machine
end

