-- ==== Sys2Proof/Certificates/Slice0/Obligations.lean ====
section
/-! DEFINITION. The statements for the provers. The rules R<n> a docstring names are those its statement draws on; OBLIGATIONS.json
says of each statement whether it states a rule whole. A clause that rests on a choice of the model says so and names its entry
of the assumption log. -/

open Sys2Proof Sys2Proof.Machine

/-! ## The step -/

/-- A command at the front of the queue is the one the step runs, on the state with the queue's rest. -/
def Obligations.StepRunsFrontCommand : Prop :=
  ∀ (i : Instr) (rest : List Instr) (s : State), step { s with pending := i :: rest } = exec i { s with pending := rest }

/-- The model's choice (assumption log 1): with no command waiting an unpowered part stays as it is, a due RESTART puts its reset in
the queue unless RESET_LINE is asserted (R177; assumption log 38), a queued request that can be dispatched is put in the queue as the command it spells (R182), and otherwise, requests
that cannot be dispatched waiting or not, one millisecond of zone time passes (R178) and the expiries that have come by then, and
no other command, are put in the queue. -/
def Obligations.EmptyQueueStep : Prop :=
  ∀ s : State, s.pending = [] →
    (s.powered = false → step s = .next s) ∧
    (s.powered = true → s.lnk.restart = .due → s.pins.resetLine = false →
      step s = .next { s with pending := [.restartReset s.pins.rate0 s.pins.rate1] }) ∧
    (∀ (k tag : Byte) (args : List Byte) (rest : List (List Byte)), s.powered = true → s.lnk.restart = .none →
      s.lnk.replySlot = none → s.lnk.requests = (k :: tag :: args) :: rest →
      step s = .next { s with pending := [commandOf s.pins.maint k tag args] }) ∧
    (s.powered = true → (s.lnk.restart = .due → s.pins.resetLine = true) →
      (s.lnk.restart ≠ .none ∨ s.lnk.replySlot ≠ none ∨ ∀ payload ∈ s.lnk.requests.head?, payload.length < 2) →
      ∃ come : List Instr, step s = .next { s with now := s.now + 1, pending := come } ∧
        ∀ i, i ∈ come ↔ HasCome { s with now := s.now + 1 } i)

/-- Every command completes, and none touches the commands that wait behind it. -/
def Obligations.ExecCompletesAndKeepsQueue : Prop :=
  ∀ (i : Instr) (s : State), ∃ t, exec i s = .next t ∧ t.pending = s.pending

/-- The model's choices (assumption logs 6 and 11): a part without supply takes no command but POWER_ON, the input lines aside; a
request whose dispatch must wait (R182: the reply slot is taken, a RESTART has been accepted, or another request is older)
changes nothing. -/
def Obligations.CommandsThatMustWait : Prop :=
  (∀ (i : Instr) (s : State), s.powered = false → (∀ b r0 r1, i ≠ .powerOn b r0 r1) →
    ∃ t, exec i s = .next t ∧ KeptBut [.pins] s t) ∧
  (∀ (i : Instr) (s : State) (k tag : Byte), requestKind i = some (k, tag) → s.powered = true → s.mayDispatch i = false →
    (∀ m, strapOf i = some m → s.pins.maint = m) → exec i s = .next s)

/-! ## The host link -/

/-- R182: a request with a wrong length for its kind is answered BAD_LENGTH with no data, and nothing else happens: the request has
left the queue, the reply stands in the slot, and an idle transmitter begins it. A request that names a record, feeder, group,
section, segment, slot or point that the part does not have is refused with BAD_INDEX (R58, R72–R75, R88–R90, R120–R122, R163,
R168); one that names a point that is not fitted is refused with STATE (R9), and that this comes before any judgement of its value
is the model's choice (assumption log 12). -/
def Obligations.WrongRequestsAreRefused : Prop :=
  (∀ (i : Instr) (s : State) (k tag : Byte), requestKind i = some (k, tag) → wrongLength i = true → Ready s i →
     (∀ m, strapOf i = some m → s.pins.maint = m) → exec i s = .next { s with lnk := s.lnk.answered k tag (.bare .badLength) }) ∧
  (∀ (i : Instr) (s : State) (k tag : Byte), requestKind i = some (k, tag) → Ready s i →
     (namesNone i = true → OnlyReplies i s k tag (.refuse .badIndex)) ∧
     (∀ (b : Byte) (p : PointNo), pointByte i = some b → b.toNat = p.val → s.fitted p = false →
       OnlyReplies i s k tag (.refuse .state)))

/-- R180, R181: a whole envelope of 2 to 240 payload bytes puts its payload at the end of the request queue, or counts an overrun
when the queue holds 4; one of a single payload byte, a LEN of 0 or above 240, and a whole envelope whose check fails each count
a link error, as does a gap of more than 20 ms within an envelope; with none being assembled a gap does nothing. The counts stay
at 65,535.
R181, R189: the command a payload spells is a request of the payload's kind, or BAD_KIND, and carries its tag; a payload of
less than two bytes spells none. -/
def Obligations.RequestsArrive : Prop :=
  (∀ s : State, s.powered = true → LinkBounded s →
     (∀ p : List Byte, s.lnk.rx = [] → 2 ≤ p.length → p.length ≤ 240 →
       exec (.envelopeReceived (envelope p)) s = .next { s with lnk :=
         (if s.lnk.requests.length < 4 then { s.lnk with requests := s.lnk.requests ++ [p] }
         else { s.lnk with overruns := min 65535 (s.lnk.overruns + 1) }).begin }) ∧
     (∀ b : Byte, s.lnk.rx = [] → exec (.envelopeReceived (envelope [b])) s =
       .next { s with lnk := ({ s.lnk with linkErrors := min 65535 (s.lnk.linkErrors + 1) }).begin }) ∧
     (∀ len : Byte, s.lnk.rx = [] → len = 0 ∨ 240 < len.toNat → exec (.envelopeReceived [0xC3, len]) s =
       .next { s with lnk := ({ s.lnk with linkErrors := min 65535 (s.lnk.linkErrors + 1) }).begin }) ∧
     (∀ (len : Byte) (body : List Byte), s.lnk.rx = [] → 1 ≤ len.toNat → len.toNat ≤ 240 → body.length = len.toNat + 2 →
       crc16 (len :: body.take len.toNat) ≠ checkAt body len.toNat → (∀ b ∈ len :: body, b ≠ 0xC3) →
       exec (.envelopeReceived (0xC3 :: len :: body)) s =
         .next { s with lnk := ({ s.lnk with linkErrors := min 65535 (s.lnk.linkErrors + 1) }).begin }) ∧
     (exec .envelopeTimeout s = .next { s with lnk :=
       (if s.lnk.rx = [] then s.lnk else { s.lnk with rx := [], linkErrors := min 65535 (s.lnk.linkErrors + 1) }).begin })) ∧
  ((∀ (maint : Bool) (k tag : Byte) (args : List Byte), ∃ i, requestOf maint (k :: tag :: args) = some i ∧
     requestKind i = some (k, tag) ∧ (∀ m, strapOf i = some m → m = maint)) ∧
   (∀ maint : Bool, requestOf maint [] = none) ∧ ∀ (maint : Bool) (k : Byte), requestOf maint [k] = none)

/-- R186, R187: a notice of a disabled class leaves no trace; an enabled one is appended to a queue of fewer than 32; at a full queue
it is dropped when no queued notice ranks below it, and otherwise takes the place, at the end of the queue, of the oldest notice
of the lowest class present; either way the overflow mark is set. Nothing but the link changes.
R183, R177, R187: a reply that has been sent empties the reply slot, the OK of a RESTART making its reset due; then the
transmitter sends the reply in the slot if there is one, otherwise the oldest queued notice, which takes the overflow mark with
it, and nothing once a reset is due. -/
def Obligations.MessagesAreSent : Prop :=
  (∀ (s : State) (body : NoticeBody), ∃ l, s.raise body = { s with lnk := l } ∧
     (s.lnk.enabled (noticeClass body) = false → l = s.lnk) ∧
     (s.lnk.enabled (noticeClass body) = true → s.lnk.notices.length < 32 →
       l = { s.lnk with notices := s.lnk.notices ++ [⟨body, noticeClass body, s.now⟩] }) ∧
     (s.lnk.enabled (noticeClass body) = true → 32 ≤ s.lnk.notices.length →
       (∀ n ∈ s.lnk.notices, (noticeClass body).rank ≤ n.cls.rank) → l = { s.lnk with overflow := true }) ∧
     (∀ before n after, s.lnk.enabled (noticeClass body) = true → 32 ≤ s.lnk.notices.length →
       s.lnk.notices = before ++ n :: after → n.cls.rank < (noticeClass body).rank → (∀ m ∈ before, n.cls.rank < m.cls.rank) →
       (∀ m ∈ after, n.cls.rank ≤ m.cls.rank) →
       l = { s.lnk with notices := before ++ after ++ [⟨body, noticeClass body, s.now⟩], overflow := true })) ∧
  (∀ s : State, s.powered = true →
     (∀ r, s.lnk.transmitting = some (.reply r) → r.restarts = true →
       exec .messageSent s = .next { s with lnk := { s.lnk with transmitting := none, replySlot := none, restart := .due } }) ∧
     (∀ r, s.lnk.transmitting = some (.reply r) → r.restarts = false → s.lnk.restart ≠ .due →
       exec .messageSent s = .next { s with lnk := match s.lnk.notices with
         | [] => { s.lnk with transmitting := none, replySlot := none }
         | n :: rest => { s.lnk with
             transmitting := some (.notice n s.lnk.overflow), replySlot := none, notices := rest, overflow := false } }) ∧
     (∀ n o, s.lnk.transmitting = some (.notice n o) → s.lnk.restart ≠ .due →
       exec .messageSent s = .next { s with lnk := match s.lnk.replySlot, s.lnk.notices with
         | some r, _ => { s.lnk with transmitting := some (.reply r) }
         | none, [] => { s.lnk with transmitting := none }
         | none, m :: rest => { s.lnk with
             transmitting := some (.notice m s.lnk.overflow), notices := rest, overflow := false } }))

/-- R184: IDENTIFY and STATUS are always answered OK and change nothing but, for IDENTIFY, the strap as it was given; what they
carry is the state at their dispatch.
R186, R177, R182: NOTICE_CLASSES sets the two enables from bits 0 and 1 and refuses any other bit; RESTART is answered OK and
holds back every later request; a kind that is none is answered BAD_KIND. -/
def Obligations.LinkRequestsAnswer : Prop :=
  (∀ (s : State) (tag : Byte),
     (∀ m : Bool, Ready (s.withMaint m) (.identify tag (some ()) m) → exec (.identify tag (some ()) m) s =
       .next { s.withMaint m with lnk := s.lnk.answered 0x01 tag (.ok (.identity
         { working := s.sst.workingGen, stored := s.sst.storedWorkingGen, topology := s.sst.topologyGen
           storedValid := s.sst.storedValid, retentionValid := s.sst.retentionValid, maint := m
           cause := s.sst.cause })) }) ∧
     (Ready s (.status tag (some ())) → exec (.status tag (some ())) s =
       .next { s with lnk := s.lnk.answered 0x02 tag (.ok (.status
         { mode := s.sst.mode, storing := s.sst.job.isSome, blind := s.scp.blind, overflow := s.lnk.overflow
           latchA := s.bsq.latchA, latchB := s.bsq.latchB, queued := s.lnk.notices.length, linkErrors := s.lnk.linkErrors
           overruns := s.lnk.overruns, time := s.now })) })) ∧
  (∀ (s : State) (tag : Byte),
     (∀ b : Byte, Ready s (.noticeClasses tag (some b)) → exec (.noticeClasses tag (some b)) s = .next { s with lnk := (
       if 3 < b.toNat then s.lnk.answered 0x20 tag (.refuse .badValue)
       else ({ s.lnk with eventEnabled := b.getLsbD 0, infoEnabled := b.getLsbD 1 } : Lnk).answered 0x20 tag
         (.ok (.classes (b.getLsbD 0) (b.getLsbD 1)))) }) ∧
     (Ready s (.restart tag (some ())) → exec (.restart tag (some ())) s =
       .next { s with lnk := (({ s.lnk with restart := .answered } : Lnk).answered 0x21 tag ⟨.ok, .none, true⟩) }) ∧
     (∀ k : Byte, k = 0 ∨ 0x21 < k.toNat → Ready s (.requestBadKind k tag) →
       exec (.requestBadKind k tag) s = .next { s with lnk := s.lnk.answered k tag (.bare .badKind) }))

/-- R185: WATCH refuses a feeder above 11; an empty set turns the watch off; any other set and the period, held within 10 to
1000 ms, are taken, the reply being CLAMPED where the period moved, and the timer starts. When the timer runs out it starts
again and a MEASURE notice of the latest measurement is raised. -/
def Obligations.WatchIsTaken : Prop :=
  ∀ s : State,
    (∀ (tag : Byte) (a : WatchArgs), Ready s (.watch tag (some a)) →
      exec (.watch tag (some a)) s = .next { s with lnk := (
        if 4096 ≤ a.feeders.toNat then s.lnk.answered 0x1F tag (.refuse .badValue)
        else if a.feeders = 0 then ({ s.lnk with watchSet := [], watchTimer := none } : Lnk).answered 0x1F tag (.ok .none)
        else ({ s.lnk with
            watchSet := (List.finRange 12).filter fun f => a.feeders.getLsbD f.val
            watchPeriod := max 10 (min 1000 a.period.toNat)
            watchTimer := some (later s.now (max 10 (min 1000 a.period.toNat))) } : Lnk).answered 0x1F tag
          ⟨if 10 ≤ a.period.toNat ∧ a.period.toNat ≤ 1000 then .ok else .clamped, .none, false⟩) }) ∧
    (∀ e, s.powered = true → s.lnk.watchTimer = some e → reached s.now e = true →
      ∃ under, exec .watchTimerExpiry s = .next { s with lnk :=
        (({ s.lnk with watchTimer := some (later s.now s.lnk.watchPeriod) } : Lnk).says s.now
          [.measure s.lnk.watchSet s.scp.latest under]).begin } ∧
      (∀ m, s.scp.latest = some m → ∀ f, f ∈ under ↔ f ∈ s.lnk.watchSet ∧ m.injected[f].isSome = true))

/-! ## Settings, modes and resets -/

/-- R168: READ_SETTINGS reads a record of the working set (source 0) or of a valid stored set that is not being replaced (source 1),
and changes nothing.
R171: STORE_SETTINGS takes a copy of the working set and its generations, the stored set being invalid until the store is
complete; while one is in progress it is refused with BUSY. A store that completes good makes the copy the stored set, one that
fails leaves it invalid; either is reported. That a source above 1 is BAD_VALUE, judged after the index, is the model's choice
(assumption log 12), and so is that a failed store leaves the stored generation as it was (assumption log 24). -/
def Obligations.SettingsAreReadAndStored : Prop :=
  (∀ (s : State) (tag : Byte) (a : ReadSettingsArgs), Ready s (.readSettings tag (some a)) →
     exec (.readSettings tag (some a)) s = .next { s with lnk := (s.lnk.answered 0x0B tag (
       match recordOf a.kind a.index with
       | none => .refuse .badIndex
       | some id =>
         if 1 < a.source.toNat then .refuse .badValue
         else if a.source = 0 then .ok (.settings (s.sst.working.values id))
         else if s.sst.storedValid = true ∧ s.sst.job = none then .ok (.settings (s.sst.stored.values id))
         else .refuse .state)) }) ∧
  (∀ s : State,
     (∀ tag : Byte, Ready s (.storeSettings tag (some ())) → exec (.storeSettings tag (some ())) s = .next
       (if s.sst.job.isSome then { s with lnk := s.lnk.answered 0x0D tag (.refuse .busy) }
       else { s with
         lnk := s.lnk.answered 0x0D tag (.ok .none)
         sst := { s.sst with
           storedValid := false, job := some ⟨s.sst.working, s.sst.workingGen, s.sst.topologyGen, s.now⟩ } })) ∧
     (s.powered = true → ∀ good, s.sst.job = none → exec (.storeComplete good) s = .next { s with lnk := s.lnk.begin }) ∧
     (s.powered = true → ∀ j, s.sst.job = some j →
       exec (.storeComplete true) s = .next { s with
         lnk := (s.lnk.says s.now [.storeDone true j.working j.accepted s.now]).begin
         sst := { s.sst with
           job := none, stored := j.copy, storedValid := true, storedWorkingGen := j.working, storedTopologyGen := j.topology } } ∧
       ∃ gen, exec (.storeComplete false) s = .next { s with
         lnk := (s.lnk.says s.now [.storeDone false gen j.accepted s.now]).begin
         sst := { s.sst with job := none, storedValid := false } }))

/-- R169, R170, R149, R150: a refused WRITE_SETTINGS changes nothing. An accepted one replaces the one record whole in the working
set and answers it as it then stands; the working generation moves on, the topology generation exactly when a topology field has
another value, and the rest of the Settings Store stays. A fitted point whose T_prove or T_grace the write changes has its
proving level judged afresh, and the entry to LAPSED is reported; of the points nothing else follows but what the end of an event
takes up. -/
def Obligations.SettingsAreWritten : Prop :=
  ∀ (s : State) (tag : Byte) (a : WriteSettingsArgs), Ready s (.writeSettings tag (some a)) →
    (recordOf a.kind a.index = none →
      exec (.writeSettings tag (some a)) s = .next { s with lnk := s.lnk.answered 0x0C tag (.refuse .badIndex) }) ∧
    (∀ id r d, recordOf a.kind a.index = some id →
      judgeWrite s.sst.working s.sst.mode s.sst.job.isSome id a = .refused r d →
      exec (.writeSettings tag (some a)) s = .next { s with lnk := s.lnk.answered 0x0C tag (.refuseAt r d) }) ∧
    (∀ id record clamped, recordOf a.kind a.index = some id →
      judgeWrite s.sst.working s.sst.mode s.sst.job.isSome id a = .accepted record clamped →
      ∃ t w gen, exec (.writeSettings tag (some a)) s = .next t ∧ w = s.sst.working.put id record ∧
        { t.sst with mode := s.sst.mode, notedGen := s.sst.notedGen } =
          { s.sst with working := w, workingGen := s.sst.workingGen + 1, topologyGen := gen } ∧
        (gen = s.sst.topologyGen ∨ gen = s.sst.topologyGen + 1) ∧
        ((∀ c : SectionNo, (s.sst.working.sections[c]).feeders.length ≤ 2) →
          gen = if w.topology = s.sst.working.topology then s.sst.topologyGen else s.sst.topologyGen + 1) ∧
        Settles [.settings] [] (match id with | .point p => [p] | _ => []) s t ∧
        match id with
        | .point p => ∃ l, l = (if s.fitted p = true ∧ (s.point p).proving.level ≠ .lapsed ∧
              ((w.points[p]).tProve ≠ (s.pointSet p).tProve ∨ (w.points[p]).tGrace ≠ (s.pointSet p).tGrace)
            then levelFor w.points[p] (age s.now (s.point p).proving.proofTime) else (s.point p).proving.level) ∧
            PointStands (s.setPoint p { s.point p with proving := if l = (s.point p).proving.level then (s.point p).proving
              else { (s.point p).proving with level := l, quietTimer := none, ready := false } }) t p ∧
            Answered s t 0x0C tag ⟨if clamped then .clamped else .ok, .settings (w.values id), false⟩
              (if l = .lapsed ∧ (s.point p).proving.level ≠ .lapsed then [.pointLapsed p (s.point p).state
                (if (s.point p).state = .set ∨ (s.point p).state = .unknown then some (s.point p).leg else none)
                (s.point p).proving.proofTime s.now] else [])
        | _ => Answered s t 0x0C tag ⟨if clamped then .clamped else .ok, .settings (w.values id), false⟩ [])

/-- R169: a write is accepted only while no store is in progress, only with fields the record has, none twice, and outside
CONFIGURE only without topology fields. In the record it gives, every field that is no timer holds its value of the merged
record, which lies in the field's range, every timer holds its value clamped to its range, and the answer is CLAMPED exactly
when a timer moved. In the merged record a named field has the value written and any other its old one.
The order of refusals: BUSY while a store is in progress; BAD_VALUE for the first entry with a field the record has not or one
named twice; MODE for a topology field outside CONFIGURE; BAD_VALUE for a field of the merged record, not a timer, out of its
range; then the cross-field checks in their order; a write that passes them all is accepted. Which field a refusal names is the
model's choice (assumption log 12). -/
def Obligations.AcceptedWriteIsInRange : Prop :=
  (∀ (w : Settings) (mode : Mode) (storing : Bool) (id : RecordId) (a : WriteSettingsArgs) (record : List Int) (clamped : Bool),
     judgeWrite w mode storing id a = .accepted record clamped →
     storing = false ∧ record.length = id.specs.length ∧
     (∀ e ∈ a.entries, 1 ≤ e.field.toNat ∧ e.field.toNat ≤ id.specs.length) ∧ (a.entries.map fun e => e.field.toNat).Nodup ∧
     (mode ≠ .configure → ∀ e ∈ a.entries, classAt id.specs e.field.toNat ≠ some .topology) ∧
     ∃ merged : List Int, Merged w id a.entries merged ∧ (clamped = true ↔ record ≠ merged) ∧
       ∀ n spec, 1 ≤ n → id.specs[n - 1]? = some spec →
         (spec.cls ≠ .timer → valueAt record n = valueAt merged n ∧ spec.range.holds (valueAt record n) = true) ∧
         (spec.cls = .timer → valueAt record n = spec.range.clamp (valueAt merged n) ∧ spec.range.holds (valueAt record n) = true)) ∧
  ∀ (w : Settings) (mode : Mode) (id : RecordId) (a : WriteSettingsArgs),
    judgeWrite w mode true id a = .refused .busy ⟨none, none, none⟩ ∧
    (∀ before e after, a.entries = before ++ e :: after → StrayField id.specs.length before e →
      (∀ b d rest, before = b ++ d :: rest → ¬StrayField id.specs.length b d) →
      judgeWrite w mode false id a = .refused .badValue ⟨some a.kind.toNat, some a.index.toNat, some e.field.toNat⟩) ∧
    ((∀ b d rest, a.entries = b ++ d :: rest → ¬StrayField id.specs.length b d) →
      (∀ before e after, mode ≠ .configure → a.entries = before ++ e :: after → classAt id.specs e.field.toNat = some .topology →
        (∀ d ∈ before, classAt id.specs d.field.toNat ≠ some .topology) →
        judgeWrite w mode false id a = .refused .mode ⟨some a.kind.toNat, some a.index.toNat, some e.field.toNat⟩) ∧
      (mode = .configure ∨ (∀ e ∈ a.entries, classAt id.specs e.field.toNat ≠ some .topology) →
        ∀ m, Merged w id a.entries m →
          (∀ n, OutOfRange id m n → (∀ k, k < n → ¬OutOfRange id m k) →
            judgeWrite w mode false id a = .refused .badValue ⟨some a.kind.toNat, some a.index.toNat, some n⟩) ∧
          ((∀ n, ¬OutOfRange id m n) →
            match (match id with
              | .feeder _ =>
                if valueAt m 5 < valueAt m 6 then some 6
                else if valueAt m 13 ≤ valueAt m 14 then some 14
                else if (w.floorCurrent : Int) < valueAt m 4 then some 4
                else if (w.floorReclose : Int) < valueAt m 20 then some 20
                else none
              | .sec _ =>
                if valueAt m 5 - 50 < valueAt m 6 then some 6
                else if 2 < valueAt m 1 % 256 ∨
                    (valueAt m 1 % 256 = 2 ∧ valueAt m 1 / 256 % 256 = valueAt m 1 / 65536 % 256) then some 1
                else none
              | .zone | .segment _ | .gate _ | .point _ => none : Option Nat) with
            | some n => judgeWrite w mode false id a = .refused .badValue ⟨some a.kind.toNat, some a.index.toNat, some n⟩
            | none => ∃ record clamped, judgeWrite w mode false id a = .accepted record clamped)))

/-- R172: SET_FLOOR, by the first case that applies. `c` and `n` are the caps it names. That the refusal with STATE names the feeder
as record kind 1 is the model's choice (assumption log 12). -/
def Obligations.FloorsAreSet : Prop :=
  ∀ (s : State) (tag : Byte) (a : SetFloorArgs) (maint : Bool) (c n : Option Nat),
    Ready (s.withMaint maint) (.setFloor tag (some a) maint) →
    c = (if a.current = 0xFFFF then none else some a.current.toNat) → n = (if a.reclose = 0xFF then none else some a.reclose.toNat) →
    exec (.setFloor tag (some a) maint) s = .next (
      if c = none ∧ n = none then
        { s.withMaint maint with
          lnk := s.lnk.answered 0x0E tag (.ok (.floors s.sst.working.floorCurrent s.sst.working.floorReclose)) }
      else if s.sst.job ≠ none then { s.withMaint maint with lnk := s.lnk.answered 0x0E tag (.refuse .busy) }
      else if (∃ v ∈ c, v < 200 ∨ 6000 < v) ∨ (∃ v ∈ n, 3 < v) then
        { s.withMaint maint with lnk := s.lnk.answered 0x0E tag (.refuse .badValue) }
      else if ((∃ v ∈ c, s.sst.working.floorCurrent < v) ∨ (∃ v ∈ n, s.sst.working.floorReclose < v)) ∧
          ¬(s.sst.mode = .configure ∧ maint = true) then
        { s.withMaint maint with lnk := s.lnk.answered 0x0E tag (.refuse .locked) }
      else match (List.finRange 12).find? fun f =>
          decide ((∃ v ∈ c, v < (s.feederSet f).iMax) ∨ (∃ v ∈ n, v < (s.feederSet f).nReclose)) with
        | some f => { s.withMaint maint with lnk := s.lnk.answered 0x0E tag (.refuseAt .state ⟨some 1, some f.val, none⟩) }
        | none => { s.withMaint maint with
            lnk := s.lnk.answered 0x0E tag
              (.ok (.floors (c.getD s.sst.working.floorCurrent) (n.getD s.sst.working.floorReclose)))
            sst := { s.sst with
              workingGen := s.sst.workingGen + 1
              working := { s.sst.working with
                floorCurrent := c.getD s.sst.working.floorCurrent, floorReclose := n.getD s.sst.working.floorReclose } } })

/-- R173, R174: a mode asked for that is in force, or CONFIGURE asked for in DRAINING, is answered OK and changes nothing; another
value is refused. CONFIGURE asked for in RUN enters DRAINING, which ends at once when nothing is left to drain; RUN asked for in
DRAINING enters RUN. DRAINING ends, with the topology generation noted, as soon as nothing is left to drain, and not before. -/
def Obligations.ModesChange : Prop :=
  ∀ s : State,
    (∀ (tag b : Byte), Ready s (.setMode tag (some b)) → 1 < b.toNat →
      exec (.setMode tag (some b)) s = .next { s with lnk := (s.lnk.answered 0x0F tag (.refuse .badValue)) }) ∧
    (∀ tag : Byte, Ready s (.setMode tag (some 0)) → s.sst.mode = .run →
      exec (.setMode tag (some 0)) s = .next { s with lnk := (s.lnk.answered 0x0F tag (.ok .none)) }) ∧
    (∀ tag : Byte, Ready s (.setMode tag (some 1)) → s.sst.mode ≠ .run →
      exec (.setMode tag (some 1)) s = .next { s with lnk := (s.lnk.answered 0x0F tag (.ok .none)) }) ∧
    (∀ tag : Byte, Ready s (.setMode tag (some 0)) → s.sst.mode = .draining →
      ∃ t, exec (.setMode tag (some 0)) s = .next t ∧ t.sst = { s.sst with mode := .run } ∧
        KeptBut (.link :: settleParts) s t ∧ Answered s t 0x0F tag (.ok .none) [.mode .draining .run s.now]) ∧
    (∀ tag : Byte, Ready s (.setMode tag (some 1)) → s.sst.mode = .run →
      ∃ t, exec (.setMode tag (some 1)) s = .next t ∧ KeptBut (.link :: settleParts) s t ∧
        Answered s t 0x0F tag (.ok .none) [.mode .run .draining s.now] ∧
        (t.sst.mode = .draining ∨ t.sst.mode = .configure ∧ t.sst.notedGen = s.sst.topologyGen) ∧
        (s.drained = true → (∀ f, (s.breaker f).state ≠ .deadTime) → t.sst.mode = .configure ∧
          Answered s t 0x0F tag (.ok .none) [.mode .run .draining s.now, .mode .draining .configure s.now])) ∧
    (s.powered = true →
      (s.sst.mode = .draining → s.drained = true → ∃ t, exec .drainComplete s = .next t ∧
        t.sst = { s.sst with mode := .configure, notedGen := s.sst.topologyGen } ∧ KeptBut (.link :: settleParts) s t ∧
        Says s t [.mode .draining .configure s.now]) ∧
      (s.sst.mode ≠ .draining ∨ s.drained = false → exec .drainComplete s = .next { s with lnk := s.lnk.begin }))

/-- R10, R11: the validity checks: none fails, or the first that fails is the one whose record comes first in the order of feeders,
sections, points and gates, then by index, then by check number. RUN asked for in CONFIGURE is refused while the working topology
fails a check, naming it, or a feeder that differs is in service; that the refusal names it as record kind 1 is the model's choice
(assumption log 12).
R12, R51, R76, R91, R100, R155, R157: otherwise the working topology is made active and RUN is entered, with its effects on feeders,
sections, gates, points and the tracking (Activated), and MODE is reported. Input lines, trip records, lock lists and the stored set
are untouched. The model's choices are the cause DETECTION of a point found FAILED (assumption log 15), and that a gate that changes
with its stuck mark set reports it cleared also when it settles (assumption log 33). -/
def Obligations.RunTakesTheTopology : Prop :=
  (∀ T : Topology, (T.firstFailure = none ↔ ∀ kind index check, ¬T.Fails kind index check) ∧
     ∀ kind index check, T.firstFailure = some (kind, index, check) ↔
       T.Fails kind index check ∧
         ∀ kind' index' check', T.Fails kind' index' check' → NoLater kind index check kind' index' check') ∧
  (∀ (s : State) (tag : Byte), Ready s (.setMode tag (some 0)) → s.sst.mode = .configure →
     (∀ kind index check, s.sst.working.topology.firstFailure = some (kind, index, check) →
       exec (.setMode tag (some 0)) s = .next { s with
         lnk := (s.lnk.answered 0x0F tag (.refuseAt .badValue ⟨some kind, some index, some check⟩)) }) ∧
     (∀ f, s.sst.working.topology.firstFailure = none → InService s f → (∀ g < f, ¬InService s g) →
       exec (.setMode tag (some 0)) s = .next { s with
         lnk := (s.lnk.answered 0x0F tag (.refuseAt .state ⟨some 1, some f.val, none⟩)) }) ∧
     (s.sst.working.topology.firstFailure = none → (∀ f, ¬InService s f) → ∃ t, exec (.setMode tag (some 0)) s = .next t ∧
       t.sst = { s.sst with mode := .run, active := s.sst.working.topology } ∧
       KeptBut [.link, .settings, .mode, .scan, .protection, .breakers, .lockouts, .sections, .gates, .vehicles, .points] s t ∧
       Activated s t ∧ (∃ before, Answered s t 0x0F tag (.ok .none) (before ++ [.mode .configure .run s.now])) ∧
       ∀ g, s.topo.gates[g] ≠ t.topo.gates[g] → (s.gate g).stuck = true →
         ∃ before, Answered s t 0x0F tag (.ok .none) (before ++ [.gateCleared g s.now])))

/-- R171, R175, R178: the loss of the supply ends a store, leaves the stored set invalid if one was in progress, and marks the
retained area if it was caught in an update; the return of the supply is a reset, the retained area being kept when its check
passes and its backup supply held. That POWER_ON of a part that has supply is a reset like any other is the model's choice
(assumption log 17), and so are the values after it that the spec does not give (assumption log 29). -/
def Obligations.SupplyIsLostAndReturns : Prop :=
  ∀ s : State,
    (∀ mid, s.powered = true → exec (.powerLoss mid) s = .next { s with
      powered := false, sst := { s.sst with job := none }, ret := { s.ret with intact := s.ret.intact && !mid } }) ∧
    (∀ held r0 r1, ∃ t, exec (.powerOn held r0 r1) s = .next t ∧ ResetDone s t .powerOn (s.ret.intact && held) r0 r1)

/-- R177, R178: the release of RESET_LINE resets a powered part in any state, whether or not a RESTART has been accepted or is due; the
reset of an accepted RESTART takes place once it is due and RESET_LINE is not asserted. Both keep the retained area when its check
passes. Until then a RESTART resets nothing: the reset of a RESET_LINE asserted takes its place. The assertion itself only puts the
level on the line. That a RESTART is held back by an assertion at any moment before its own reset is taken, and that the part goes
on as usual while the line is asserted, are the model's choices (assumption log 38), and so are the values after a reset that the
spec does not give (assumption log 29). -/
def Obligations.ResetsAreDone : Prop :=
  ∀ (s : State) (r0 r1 : Bool), s.powered = true →
    (exec (.resetLine true (r0, r1)) s = .next { s with pins := { s.pins with resetLine := true }, lnk := s.lnk.begin }) ∧
    (∃ t, exec (.resetLine false (r0, r1)) s = .next t ∧
      ResetDone { s with pins := { s.pins with resetLine := false } } t .resetLine s.ret.intact r0 r1) ∧
    (s.lnk.restart = .due → s.pins.resetLine = false →
      ∃ t, exec (.restartReset r0 r1) s = .next t ∧ ResetDone s t .restart s.ret.intact r0 r1) ∧
    (s.lnk.restart ≠ .due ∨ s.pins.resetLine = true → NothingToDo (.restartReset r0 r1) s)

/-! ## Feeders -/

/-- R49, R52, R66, R75: READ_FEEDER and READ_TRIP_RECORD report a feeder as it stands and change nothing; the expected cooling time
is the ceiling of H less H_reclose over q_c squared, 0 at or below H_reclose. CLEAR_TRIP_RECORD empties the trip record and sets
the count to 0. That holds are reported in DEAD_TIME only and a lockout in LOCKED_OUT only is the model's choice (assumption
log 13). -/
def Obligations.FeedersAreRead : Prop :=
  ∀ (s : State) (tag b : Byte) (f : FeederNo), b.toNat = f.val →
    (Ready s (.readFeeder tag (some b)) → 16 ≤ (s.feederSet f).iCont → ∃ cooling : Nat,
      OnlyReplies (.readFeeder tag (some b)) s 0x03 tag (.ok (.feeder
        { heat := (s.protection f).heat, cooling := cooling
          rising := (s.protection f).window.rising, runLength := (s.protection f).window.length
          overCount := (s.protection f).window.overs, instRun := (s.protection f).inst.count
          reverseRun := (s.protection f).reverse.count, mask := (s.protection f).mask, shadow := (s.protection f).shadow
          state := (s.breaker f).state, attempts := (s.breaker f).attempts
          limit := if (s.breaker f).limited then min (s.feederSet f).nReclose 1 else (s.feederSet f).nReclose
          timer := (s.breaker f).timer.map (timeLeft s.now), test := (s.breaker f).test, judged := (s.breaker f).judged
          lockout := if (s.breaker f).state = .lockedOut then s.lockout f else none
          holds := if (s.breaker f).state = .deadTime then s.holds f else []
          injection := s.injection f })) ∧
      (if (s.protection f).heat ≤ (s.feederSet f).hReclose then cooling = 0
      else (s.protection f).heat - (s.feederSet f).hReclose ≤ cooling * ((s.feederSet f).iCont / 16) ^ 2 ∧
        (cooling - 1) * ((s.feederSet f).iCont / 16) ^ 2 < (s.protection f).heat - (s.feederSet f).hReclose)) ∧
    (Ready s (.readTripRecord tag (some b)) →
      OnlyReplies (.readTripRecord tag (some b)) s 0x04 tag (.ok (.trip (s.trip f) (s.tripCount f)))) ∧
    (Ready s (.clearTripRecord tag (some b)) → exec (.clearTripRecord tag (some b)) s = .next { s with
      lnk := s.lnk.answered 0x05 tag (.ok .none)
      ret := { s.ret with trips := s.ret.trips.set f none, tripCounts := s.ret.tripCounts.set f 0 } })

/-- R72, R64: FEEDER_CLOSE, by the first case that applies. An accepted one puts the feeder in TESTING with TEST asserted, or makes
a live close, CLOSE asserted, when its partner is CLOSED and the section LIVE. -/
def Obligations.FeederIsClosed : Prop :=
  ∀ (s : State) (tag b : Byte) (f : FeederNo), b.toNat = f.val → Ready s (.feederClose tag (some b)) →
    match (if s.enabled f = false ∨ (s.breaker f).state ≠ .opened ∨ s.ready f = false then some .state
      else if s.sst.mode ≠ .run then some .mode
      else if s.scp.blind = true then some .blind
      else if ∃ c ∈ s.topo.feederSection f, s.locks c ≠ [] then some .locked
      else if (s.feederSet f).hReclose < (s.protection f).heat then some .thermal
      else if (s.injection f).pattern ≠ .none then some .injecting
      else none : Option Result) with
    | some r => OnlyReplies (.feederClose tag (some b)) s 0x10 tag (.refuse r)
    | none => ∃ t, exec (.feederClose tag (some b)) s = .next t ∧ Answered s t 0x10 tag (.ok .none) [] ∧ Settles [] [f] [] s t ∧
        t.lockout f = s.lockout f ∧
        t.breaker f = (
          if (∃ g ∈ s.topo.partner f, (s.breaker g).state = .closed) ∧ (∃ c ∈ s.topo.feederSection f, (s.sec c).live = true) then
            { s.breaker f with
              state := .closing, automatic := false, test := .idle, expired := false, deadTimer := none, readyWait := none
              closeOut := true, closeTimer := some (later s.now (s.feederSet f).tCloseConf) }
          else { s.breaker f with
            state := .testing, automatic := false, test := .settle 0, expired := false, deadTimer := none, readyWait := none })

/-- R73, R56: FEEDER_OPEN. CLOSED and CLOSING open, through OPENING with cause host open while AUX shows closed; in OPENING the
cause becomes host open; DEAD_TIME and TESTING go to OPEN; OPEN and LOCKED_OUT stay; STUCK and a disabled feeder refuse. -/
def Obligations.FeederIsOpened : Prop :=
  ∀ (s : State) (tag b : Byte) (f : FeederNo), b.toNat = f.val → Ready s (.feederOpen tag (some b)) →
    if s.enabled f = false ∨ (s.breaker f).state = .stuck then OnlyReplies (.feederOpen tag (some b)) s 0x11 tag (.refuse .state)
    else if (s.breaker f).state = .opened ∨ (s.breaker f).state = .lockedOut then
      OnlyReplies (.feederOpen tag (some b)) s 0x11 tag (.ok .none)
    else if (s.breaker f).state = .opening then exec (.feederOpen tag (some b)) s = .next { s with
      lnk := s.lnk.answered 0x11 tag (.ok .none)
      bsq := { s.bsq with breakers := (s.bsq.breakers.set f { s.breaker f with cause := .hostOpen }) } }
    else ∃ t, exec (.feederOpen tag (some b)) s = .next t ∧ Answered s t 0x11 tag (.ok .none) [] ∧ Settles [] [f] [] s t ∧
      t.lockout f = s.lockout f ∧
      t.breaker f = (
        if s.aux f = true ∧ ((s.breaker f).state = .closed ∨ (s.breaker f).state = .closing) then
          { Breaker.rest .opening (s.breaker f).judged with openTimer := some (later s.now (s.feederSet f).tOpenConf) }
        else .rest .opened (s.breaker f).judged)

/-- R74: FEEDER_RESET, in every mode. The breaker is not closed, and the incomer latches keep their levels. -/
def Obligations.FeederIsReset : Prop :=
  ∀ (s : State) (tag b : Byte), Ready s (.feederReset tag (some b)) →
    (12 ≤ b.toNat → OnlyReplies (.feederReset tag (some b)) s 0x12 tag (.refuse .badIndex)) ∧
    ∀ f : FeederNo, b.toNat = f.val →
      if s.enabled f = true ∧ ((s.breaker f).state = .lockedOut ∨ ((s.breaker f).state = .stuck ∧ s.aux f = false)) then
        ∃ t, exec (.feederReset tag (some b)) s = .next t ∧ Answered s t 0x12 tag (.ok .none) [] ∧ Settles [] [f] [] s t ∧
          t.breaker f = .rest .opened (s.breaker f).judged ∧
          t.lockout f = (if (s.breaker f).state = .lockedOut then none else s.lockout f) ∧
          t.bsq.latchA = s.bsq.latchA ∧ t.bsq.latchB = s.bsq.latchB ∧ t.tripLine f = false ∧ t.closeLine f = false
      else OnlyReplies (.feederReset tag (some b)) s 0x12 tag (.refuse .state)

/-- R58: INCOMER_RESET is refused with STATE while a feeder of the group is STUCK with AUX showing closed, and otherwise clears the
group's latch and nothing else. A group's INCOMER_TRIP is asserted while its latch is set. -/
def Obligations.IncomerLatchIsReset : Prop :=
  ∀ (s : State) (tag : Byte),
    (Ready s (.incomerReset tag (some 0)) →
      if ∃ f : FeederNo, s.enabled f = true ∧ (s.topo.feeders[f]).group = .a ∧ (s.breaker f).state = .stuck ∧ s.aux f = true then
        OnlyReplies (.incomerReset tag (some 0)) s 0x13 tag (.refuse .state)
      else exec (.incomerReset tag (some 0)) s = .next { s with
        lnk := s.lnk.answered 0x13 tag (.ok .none), bsq := { s.bsq with latchA := false } }) ∧
    (Ready s (.incomerReset tag (some 1)) →
      if ∃ f : FeederNo, s.enabled f = true ∧ (s.topo.feeders[f]).group = .b ∧ (s.breaker f).state = .stuck ∧ s.aux f = true then
        OnlyReplies (.incomerReset tag (some 1)) s 0x13 tag (.refuse .state)
      else exec (.incomerReset tag (some 1)) s = .next { s with
        lnk := s.lnk.answered 0x13 tag (.ok .none), bsq := { s.bsq with latchB := false } }) ∧
    (s.powered = true → s.incomerLine .a = s.bsq.latchA ∧ s.incomerLine .b = s.bsq.latchB)

/-- R23, R24, R25, R27, R48: INJECT, by the first case that applies; a pattern above RAMP is refused first (R189; assumption
log 12). A pattern that starts, or ends, restarts the feeder's detector records: runs 0, window QUIET, a new shadow content or
none, the next step to fill the history. Nothing else changes. What an injection record holds beside the pattern NONE, and the
step scan of a RAMP, is the model's choice (assumption log 29).
R24, R25, R26: the value of a STEP or RAMP pattern at a position, a ramp clamped and marked saturated beyond ±6000 A. A valid
scan's measurement without the BLIND mark carries the value at the position, after which the position is one higher; a HELD or
BLIND-marked measurement carries the last value delivered, or the first one when none has been.
R26, R27, R48: an accepted scan delivered without the BLIND mark moves a pattern on, or ends it once its last value has been
delivered, with its shadow content; one delivered with the mark, and a held scan, leave it where it is. -/
def Obligations.InjectionIsTaken : Prop :=
  (∀ (s : State) (tag : Byte) (a : InjectArgs) (f : FeederNo), a.feeder.toNat = f.val → Ready s (.inject tag (some a)) →
     if 2 < a.pattern.toNat then OnlyReplies (.inject tag (some a)) s 0x1E tag (.refuse .badValue)
     else if a.pattern = 0 ∧ (s.injection f).pattern = .none then OnlyReplies (.inject tag (some a)) s 0x1E tag (.ok .none)
     else if a.pattern = 0 then exec (.inject tag (some a)) s = .next { s with
       lnk := s.lnk.answered 0x1E tag (.ok .none)
       scp := { s.scp with injection := s.scp.injection.set f .idle }
       fpu := (s.fpu.set f { s.protection f with
         inst := .zero, reverse := .zero, window := .quiet (s.protection f).window.iStart, shadow := none, refill := true }) }
     else if s.enabled f = false ∨ ((s.breaker f).state ≠ .opened ∧ (s.breaker f).state ≠ .lockedOut) ∨ s.aux f = true then
       OnlyReplies (.inject tag (some a)) s 0x1E tag (.refuse .state)
     else if s.scp.blind = true then OnlyReplies (.inject tag (some a)) s 0x1E tag (.refuse .blind)
     else if (-6000 ≤ a.base.toInt ∧ a.base.toInt ≤ 6000) ∧ (1 ≤ a.length.toNat ∧ a.length.toNat ≤ 60000) ∧
         (a.pattern = 1 →
           -6000 ≤ a.levelOrSlope.toInt ∧ a.levelOrSlope.toInt ≤ 6000 ∧ a.stepScan.toNat ≤ a.length.toNat - 1) ∧
         (a.pattern = 2 → -2000 ≤ a.levelOrSlope.toInt ∧ a.levelOrSlope.toInt ≤ 2000) then
       exec (.inject tag (some a)) s = .next { s with
         lnk := s.lnk.answered 0x1E tag (.ok .none)
         scp := { s.scp with injection := (s.scp.injection.set f
           { pattern := if a.pattern = 1 then .step else .ramp, base := a.base.toInt, arg := a.levelOrSlope.toInt
             length := a.length.toNat, stepScan := if a.pattern = 1 then a.stepScan.toNat else 0, position := 0, last := none }) }
         fpu := (s.fpu.set f { s.protection f with
           inst := .zero, reverse := .zero, window := .quiet (s.protection f).window.iStart, shadow := some 0, refill := true }) }
     else OnlyReplies (.inject tag (some a)) s 0x1E tag (.refuse .badValue)) ∧
  ((∀ (j : Injection) (p : Nat),
     (j.pattern = .step → j.value p = some ⟨if p < j.stepScan then j.base else j.arg, false⟩) ∧
     (j.pattern = .ramp → j.value p = some (
       if 6000 < j.base + p * j.arg then ⟨6000, true⟩
       else if j.base + p * j.arg < -6000 then ⟨-6000, true⟩
       else ⟨j.base + p * j.arg, false⟩)) ∧
     (j.pattern = .none → j.value p = none ∧ j.advance = j) ∧
     (j.pattern ≠ .none → j.advance.position = j.position + 1 ∧ j.advance.last = j.value j.position)) ∧
   ∀ (s : State) (scan : Scan) (broken : Bool) (f : FeederNo),
     (s.validMeasurement scan broken false).injected[f] = (s.injection f).value (s.injection f).position ∧
     (s.validMeasurement scan broken true).injected[f] = (s.heldMeasurement).injected[f] ∧
     (∀ x, (s.injection f).last = some x → (s.heldMeasurement).injected[f] = some x) ∧
     ((s.injection f).last = none → (s.heldMeasurement).injected[f] = (s.injection f).value 0) ∧
     (s.validMeasurement scan broken false).current[f] = scan.current[f] ∧
     (s.heldMeasurement).current[f] = (s.scp.last.current)[f]) ∧
  (∀ (s : State) (f : FeederNo) (j : Injection), s.powered = true → j = s.injection f →
     (∀ (frame : List Byte) (run : Nat), s.scp.rx = [] → frame.length = 56 → frame.head? = some 0x5A →
       crc16 ((frame.drop 1).take 53) = checkAt frame 54 →
       run = (if ∃ q ∈ s.scp.last.seq, (byteAt frame 1).setWidth 4 = q + 1 then s.scp.validRun + 1 else 1) →
       ∃ t, exec (.scanReceived frame) s = .next t ∧
         if j.pattern = .none ∨ (s.scp.blind = true ∧ run < 16) then t.injection f = j
         else if j.length ≤ j.position + 1 then
           t.injection f = .idle ∧ (t.protection f).shadow = none ∧ (t.protection f).refill = true
         else t.injection f = { j with position := j.position + 1, last := j.value j.position }) ∧
     ∃ t, exec .overdueWaitExpiry s = .next t ∧ t.injection f = j)

/-! ## Sections and work locks -/

/-- R88: LOCK_ADD, by the first case that applies, in every mode. That the SECTION_STATE of the first holder carries the zone time
of the request is the model's choice (assumption log 31). -/
def Obligations.LocksAreAdded : Prop :=
  ∀ (s : State) (tag : Byte) (a : LockArgs), Ready s (.lockAdd tag (some a)) →
    (12 ≤ a.sec.toNat → OnlyReplies (.lockAdd tag (some a)) s 0x14 tag (.refuse .badIndex)) ∧
    ∀ c : SectionNo, a.sec.toNat = c.val →
      if a.holder = 0 ∨ 250 < a.holder.toNat then OnlyReplies (.lockAdd tag (some a)) s 0x14 tag (.refuse .badValue)
      else if a.holder.toNat ∈ s.locks c then
        OnlyReplies (.lockAdd tag (some a)) s 0x14 tag (.ok (.locks (some true) (s.locks c)))
      else if ∃ f ∈ s.topo.enabledFeeders c,
          (s.breaker f).state ≠ .opened ∧ (s.breaker f).state ≠ .lockedOut ∧ (s.breaker f).state ≠ .stuck then
        OnlyReplies (.lockAdd tag (some a)) s 0x14 tag (.refuse .state)
      else if 4 ≤ (s.locks c).length then OnlyReplies (.lockAdd tag (some a)) s 0x14 tag (.refuse .full)
      else ∃ t, exec (.lockAdd tag (some a)) s = .next t ∧ Settles [.locks] [] [] s t ∧
        t.ret.locks = s.ret.locks.set c (s.locks c ++ [a.holder.toNat]) ∧
        Answered s t 0x14 tag (.ok (.locks (some false) (s.locks c ++ [a.holder.toNat])))
          (if s.locks c = [] then [.sectionState c (s.sec c).live (s.sec c).voltage (s.sec c).fed 1 s.now] else [])

/-- R89: LOCK_REMOVE, in every mode and whatever the feeders' states: the holder is removed and those after it keep their order. That
the SECTION_STATE of the last holder carries the zone time of the request is the model's choice (assumption log 31). -/
def Obligations.LocksAreRemoved : Prop :=
  ∀ (s : State) (tag : Byte) (a : LockArgs) (c : SectionNo), a.sec.toNat = c.val → Ready s (.lockRemove tag (some a)) →
    if 250 < a.holder.toNat then OnlyReplies (.lockRemove tag (some a)) s 0x15 tag (.refuse .badValue)
    else if a.holder.toNat ∉ s.locks c then OnlyReplies (.lockRemove tag (some a)) s 0x15 tag (.refuse .notHeld)
    else ∃ t, exec (.lockRemove tag (some a)) s = .next t ∧ Settles [.locks] [] [] s t ∧
      (∀ before after, s.locks c = before ++ a.holder.toNat :: after → a.holder.toNat ∉ before ++ after →
        t.ret.locks = s.ret.locks.set c (before ++ after) ∧
        Answered s t 0x15 tag (.ok (.locks none (before ++ after)))
          (if before ++ after = [] then [.sectionState c (s.sec c).live (s.sec c).voltage (s.sec c).fed 0 s.now] else []))

/-! ## The account of vehicles -/

/-- R90, R122: READ_SECTION, READ_SEGMENT, READ_VEHICLE and FIND_VEHICLE report the account as it stands and change nothing. -/
def Obligations.AccountIsRead : Prop :=
  ∀ (s : State) (tag b : Byte) (w : BitVec 16),
    (∀ c : SectionNo, b.toNat = c.val → Ready s (.readSection tag (some b)) →
      OnlyReplies (.readSection tag (some b)) s 0x06 tag (.ok (.sec
        { live := (s.sec c).live, voltage := (s.sec c).voltage, liveCount := (s.sec c).liveCount
          deadCount := (s.sec c).deadCount, backfeedCount := (s.sec c).backfeedCount, fed := (s.sec c).fed
          underTest := (s.topo.enabledFeeders c).any fun f => decide ((s.breaker f).test ≠ .idle)
          backfeed := (s.sec c).backfeed, supplyLost := (s.sec c).supplyLost, locks := s.locks c
          feeders := s.topo.enabledFeeders c, segments := s.topo.segmentsOf c, breakGates := s.topo.breakGates c }))) ∧
    (∀ g : SegmentNo, b.toNat = g.val → Ready s (.readSegment tag (some b)) →
      OnlyReplies (.readSegment tag (some b)) s 0x07 tag (.ok (.segment
        { sec := (s.topo.segments)[g]
          queue := (s.queue g).map fun n =>
            (⟨n, (s.vehicle n).bind fun v => v.fleet⟩, (s.vehicle n).bind fun v => v.gate)
          untracked := s.untracked g
          point := (s.topo.pointOfApproach g).map fun p => (p, (s.point p).queue.length)
          gates := s.gateReports g }))) ∧
    (∀ n : SlotNo, b.toNat = n.val → Ready s (.readVehicle tag (some b)) →
      OnlyReplies (.readVehicle tag (some b)) s 0x09 tag (.ok (.vehicle
        ((s.vehicle n).map fun v => (v, (s.queue v.segment).idxOf n + 1))))) ∧
    (Ready s (.findVehicle tag (some w)) →
      (w = 0 ∨ 9999 < w.toNat → OnlyReplies (.findVehicle tag (some w)) s 0x0A tag (.refuse .badValue)) ∧
      (1 ≤ w.toNat → w.toNat ≤ 9999 →
        ((∀ n v, s.vehicle n = some v → v.fleet ≠ some w.toNat) →
          OnlyReplies (.findVehicle tag (some w)) s 0x0A tag (.ok (.found none))) ∧
        (∀ n v, s.vehicle n = some v → v.fleet = some w.toNat →
          (∀ m u, m < n → s.vehicle m = some u → u.fleet ≠ some w.toNat) →
          OnlyReplies (.findVehicle tag (some w)) s 0x0A tag (.ok (.found (some (n, v, (s.queue v.segment).idxOf n + 1)))))))

/-- R120: VEHICLE_PLACE, by the first case that applies: the record is created in the lowest free slot (R103) at the tail of the
segment's queue. That a refusal names the slot that holds the number and nothing else, and that flag bits other than the claim
mark are disregarded, is the model's choice (assumption log 12). -/
def Obligations.VehicleIsPlaced : Prop :=
  ∀ (s : State) (tag : Byte) (a : PlaceArgs) (g : SegmentNo), a.segment.toNat = g.val → Ready s (.vehiclePlace tag (some a)) →
    (9999 < a.fleet.toNat → OnlyReplies (.vehiclePlace tag (some a)) s 0x1B tag (.refuse .badValue)) ∧
    (∀ n v, a.fleet ≠ 0 → a.fleet.toNat ≤ 9999 → s.vehicle n = some v → v.fleet = some a.fleet.toNat →
      (∀ m u, m < n → s.vehicle m = some u → u.fleet ≠ some a.fleet.toNat) →
      OnlyReplies (.vehiclePlace tag (some a)) s 0x1B tag (.refuseAt .state ⟨none, some n.val, none⟩)) ∧
    (a.fleet.toNat ≤ 9999 → (a.fleet ≠ 0 → ∀ n v, s.vehicle n = some v → v.fleet ≠ some a.fleet.toNat) →
      if a.flags.getLsbD 0 = true ∧ s.untracked g = 0 then OnlyReplies (.vehiclePlace tag (some a)) s 0x1B tag (.refuse .state)
      else if 8 ≤ (s.queue g).length ∨ (∀ n, s.vehicle n ≠ none) then
        OnlyReplies (.vehiclePlace tag (some a)) s 0x1B tag (.refuse .full)
      else ∃ n t, s.vehicle n = none ∧ (∀ m < n, s.vehicle m ≠ none) ∧ exec (.vehiclePlace tag (some a)) s = .next t ∧
        Answered s t 0x1B tag (.ok (.placed n)) [] ∧ Settles [.vehicles] [] [] s t ∧
        t.vtr.slots = (s.vtr.slots.set n (some
          { fleet := if a.fleet = 0 then none else some a.fleet.toNat, segment := g, gate := none, entryTime := s.now
            lastActivity := s.now, lastFlag := .unknown, suspicion := 0, flags := ⟨false, false, false, false, false, false⟩
            decay := none })) ∧
        t.vtr.queues = s.vtr.queues.set g (s.queue g ++ [n]) ∧
        t.vtr.untracked = (if a.flags.getLsbD 0 = true then s.vtr.untracked.set g (s.untracked g - 1) else s.vtr.untracked))

/-- R121, R107: VEHICLE_REMOVE. The slot form frees a record wherever it stands, its zone queue entry with it, and gives its number,
segment and position; the segment form takes one from the untracked count. A form above 1 is refused (R189; assumption log 12). -/
def Obligations.VehicleIsRemoved : Prop :=
  ∀ (s : State) (tag : Byte) (a : RemoveArgs), Ready s (.vehicleRemove tag (some a)) →
    (a.form ≠ 0 → a.form ≠ 1 → OnlyReplies (.vehicleRemove tag (some a)) s 0x1C tag (.refuse .badValue)) ∧
    (∀ n : SlotNo, a.form = 0 → a.index.toNat = n.val → s.vehicle n = none →
      OnlyReplies (.vehicleRemove tag (some a)) s 0x1C tag (.refuse .state)) ∧
    (∀ (n : SlotNo) (v : Vehicle), a.form = 0 → a.index.toNat = n.val → s.vehicle n = some v →
      ∃ t, exec (.vehicleRemove tag (some a)) s = .next t ∧
        Answered s t 0x1C tag (.ok (.removed v.fleet v.segment ((s.queue v.segment).idxOf n + 1))) [] ∧
        Settles [.vehicles] [] (s.topo.pointOfApproach v.segment).toList s t ∧
        t.vtr.slots = s.vtr.slots.set n none ∧ t.vtr.queues = (s.vtr.queues.set v.segment ((s.queue v.segment).filter (· ≠ n))) ∧
        t.vtr.untracked = s.vtr.untracked ∧
        ∀ p, s.topo.pointOfApproach v.segment = some p →
          (t.point p).queue.map (·.slot) = ((s.point p).queue.map (·.slot)).filter (· ≠ n)) ∧
    (∀ g : SegmentNo, a.form = 1 → a.index.toNat = g.val →
      if s.untracked g = 0 then OnlyReplies (.vehicleRemove tag (some a)) s 0x1C tag (.refuse .state)
      else exec (.vehicleRemove tag (some a)) s = .next { s with
        lnk := s.lnk.answered 0x1C tag (.ok (.untracked (s.untracked g - 1)))
        vtr := { s.vtr with untracked := s.vtr.untracked.set g (s.untracked g - 1) } })

/-- R163: VEHICLE_CLEAR, in every mode. -/
def Obligations.VehicleIsCleared : Prop :=
  ∀ (s : State) (tag b : Byte), Ready s (.vehicleClear tag (some b)) →
    (48 ≤ b.toNat → OnlyReplies (.vehicleClear tag (some b)) s 0x1D tag (.refuse .badIndex)) ∧
    ∀ n : SlotNo, b.toNat = n.val →
      (s.vehicle n = none → OnlyReplies (.vehicleClear tag (some b)) s 0x1D tag (.refuse .state)) ∧
      ∀ v, s.vehicle n = some v → exec (.vehicleClear tag (some b)) s = .next { s with
        lnk := s.lnk.answered 0x1D tag (.ok (.cleared v.suspicion v.flags))
        vtr := { s.vtr with slots := (s.vtr.slots.set n (some
          { v with suspicion := 0, flags := ⟨false, false, false, false, false, false⟩, decay := none })) } }

/-- R158, R159, R160: a fault event adds its points to the suspicion, clamped at 15, sets its flag, starts the decay timer if points
were added, and is reported; FAULTED is then set, and reported, when the suspicion is at 8 or above. One that names a free slot
does nothing, and a pole fault at a gate no record holds is reported without a slot.
R161: a decay timer that expires lowers the suspicion by 1 and starts again while it is above 0; at 0 it stops, and FAULTED, if
it was set, is cleared with a notice. -/
def Obligations.SuspicionRisesAndDecays : Prop :=
  (∀ (s : State) (n : SlotNo) (e : FaultEvent),
     (s.vehicle n = none → s.applyFault n e = s) ∧
     (∀ g missing, s.holder g = none → s.poleFault g missing = s.raise (.strayPoleFault g missing s.now)) ∧
     ∀ v points sus flags, s.vehicle n = some v →
       points = (match e with
         | .suspect _ | .bridging _ => 4
         | .poleFault _ _ | .wrongLeg _ _ => 2
         | .overdue _ _ => 1
         | .doubtful => 0) →
       sus = min 15 (v.suspicion + points) →
       flags = (match e with
         | .suspect _ => v.flags
         | .bridging _ => { v.flags with bridging := true }
         | .poleFault _ _ => { v.flags with poleFault := true }
         | .wrongLeg _ _ => { v.flags with wrongLeg := true }
         | .overdue _ _ => { v.flags with overdue := true }
         | .doubtful => { v.flags with doubtful := true }) →
       s.applyFault n e = { s with
         lnk := s.lnk.says s.now ([.vehicleFault n v.fleet v.segment e points sus flags s.now] ++
           if 8 ≤ sus ∧ flags.faulted = false
           then [.faultedEntered n v.fleet v.segment sus { flags with faulted := true } s.now] else [])
         vtr := { s.vtr with slots := (s.vtr.slots.set n (some { v with
           suspicion := sus, flags := { flags with faulted := flags.faulted || decide (8 ≤ sus) }
           decay := if points = 0 then v.decay else some (later s.now s.sst.working.zone.tDecay) })) } }) ∧
  (∀ (s : State) (n : SlotNo), s.powered = true →
     ((∀ v, s.vehicle n = some v → isDue s.now v.decay = false) → NothingToDo (.decayTimerExpiry n) s) ∧
     ∀ v e, s.vehicle n = some v → v.decay = some e → reached s.now e = true →
       (1 < v.suspicion → exec (.decayTimerExpiry n) s = .next { s with
         lnk := s.lnk.begin
         vtr := { s.vtr with slots := (s.vtr.slots.set n (some
           { v with suspicion := v.suspicion - 1, decay := some (later s.now s.sst.working.zone.tDecay) })) } }) ∧
       (v.suspicion ≤ 1 → exec (.decayTimerExpiry n) s = .next { s with
         lnk := (s.lnk.says s.now (if v.flags.faulted = true
           then [.faultedCleared n v.fleet { v.flags with faulted := false } s.now] else [])).begin
         vtr := { s.vtr with slots := (s.vtr.slots.set n (some
           { v with suspicion := 0, decay := none, flags := { v.flags with faulted := false } })) } }))

/-- R103, R113: a record is created in the lowest free slot at its place in a queue of fewer than 8; with the queue full, or no slot
free, the vehicle is counted untracked, saturating at 7, and UNTRACKED raised.
R111–R114: at a completion every record gives up the gate. The head of the from-queue leaves it and joins the tail of the
to-queue; when that holds 8 records the record is freed and the vehicle counted untracked there; a gate to OFF takes the head out
of the zone. With the from-queue empty one moves from an untracked count to the next, or out; with none untracked, or from OFF, a
record is created in the to-queue, and APPEARED raised for one that comes from a segment.
R96, R98, R109, R111, R112, R136, R137: the deactivation that ends a passage at a PLAIN or EXIT gate is such a completion, with its
PASSAGE notice, and at an ENTRY gate it releases the record that holds the gate. At an exit gate of a point the head of the zone
queue leaves it, a leg other than its own being laid on it as WRONG_LEG; with the zone queue empty and confirmed ENTRY_MISSED is
raised. A leg other than the head's, or than the set leg of a SET point, sets proof demand. That a full queue is reported before a
full table, and that an untracked vehicle that moves on raises no notice, is the model's choice (assumption log 22). -/
def Obligations.CompletionsMoveTheHead : Prop :=
  (∀ (s : State) (g : SegmentNo) (place : Nat) (fleet : Option Nat) (flag : CurrentFlag),
     (8 ≤ (s.queue g).length → s.create g place fleet flag = (none, { s with
       lnk := s.lnk.says s.now
         [.untracked g s.now .queueFull none (min 7 (s.untracked g + 1)) (decide (7 ≤ s.untracked g))]
       vtr := { s.vtr with untracked := s.vtr.untracked.set g (min 7 (s.untracked g + 1)) } })) ∧
     ((s.queue g).length < 8 → (∀ n, s.vehicle n ≠ none) → s.create g place fleet flag = (none, { s with
       lnk := s.lnk.says s.now
         [.untracked g s.now .tableFull none (min 7 (s.untracked g + 1)) (decide (7 ≤ s.untracked g))]
       vtr := { s.vtr with untracked := s.vtr.untracked.set g (min 7 (s.untracked g + 1)) } })) ∧
     (∀ n, (s.queue g).length < 8 → s.vehicle n = none → (∀ m < n, s.vehicle m ≠ none) →
       s.create g place fleet flag = (some n, { s with vtr := { s.vtr with
         slots := s.vtr.slots.set n (some (freshRecord s.now fleet g flag))
         queues := s.vtr.queues.set g ((s.queue g).insertIdx (min place (s.queue g).length) n) } }))) ∧
  (∀ (s u : State) (g : GateNo) (flag : CurrentFlag) (missing : Missing) (at_ : Time) (done : Passed),
     s.complete g flag missing at_ = (done, u) →
     (∀ src n rest v, (s.topo.gates[g]).src = some src → s.queue src = n :: rest → s.vehicle n = some v →
       (∀ m, m ≠ n → u.vehicle m = ((s.vtr.drops g).slots)[m]) ∧
       done.vehicle = some ⟨n, v.fleet⟩ ∧ done.untracked = false ∧ done.stay = some (age s.now v.entryTime) ∧
       (∀ d, (s.topo.gates[g]).dst = some d → d ≠ src →
         if (s.queue d).length < 8 then
           u.vehicle n = some { v with segment := d, gate := none, entryTime := s.now, lastActivity := s.now, lastFlag := flag } ∧
           u.vtr.queues = (s.vtr.queues.set src rest).set d (s.queue d ++ [n]) ∧ u.vtr.untracked = s.vtr.untracked ∧
           done.placed = some ⟨n, v.fleet⟩
         else
           u.vehicle n = none ∧ u.vtr.queues = s.vtr.queues.set src rest ∧
           u.vtr.untracked = s.vtr.untracked.set d (min 7 (s.untracked d + 1)) ∧ done.placed = none) ∧
       ((s.topo.gates[g]).dst = none → u.vehicle n = none ∧ u.vtr.queues = s.vtr.queues.set src rest ∧
         u.vtr.untracked = s.vtr.untracked ∧ done.placed = none)) ∧
     (∀ src, (s.topo.gates[g]).src = some src → s.queue src = [] →
       (0 < s.untracked src → done = ⟨none, none, true, none⟩ ∧
         ((s.topo.gates[g]).dst = none →
           u.vtr = { s.vtr.drops g with untracked := s.vtr.untracked.set src (s.untracked src - 1) }) ∧
         ∀ d, (s.topo.gates[g]).dst = some d → d ≠ src → u.vtr = { s.vtr.drops g with
           untracked := (s.vtr.untracked.set src (s.untracked src - 1)).set d (min 7 (s.untracked d + 1)) }) ∧
       (s.untracked src = 0 → (s.topo.gates[g]).dst = none → u.vtr = s.vtr.drops g ∧ done = ⟨none, none, false, none⟩) ∧
       (s.untracked src = 0 → ∀ d, (s.topo.gates[g]).dst = some d →
         match ({ s with vtr := s.vtr.drops g } : State).create d 8 none flag with
         | (none, x) => u.vtr = x.vtr ∧ done = ⟨none, none, false, none⟩
         | (some n, x) => u.vtr = x.vtr ∧ done = ⟨some ⟨n, none⟩, some ⟨n, none⟩, false, none⟩ ∧
             u.lnk = x.lnk.says s.now [.appeared g d n none none s.now,
               .passage g (some src) (some d) (some ⟨n, none⟩) false flag missing at_ s.now none])) ∧
     (∀ d, (s.topo.gates[g]).src = none → (s.topo.gates[g]).dst = some d →
       match ({ s with vtr := s.vtr.drops g } : State).create d 8 none flag with
       | (none, x) => u.vtr = x.vtr ∧ done = ⟨none, none, false, none⟩
       | (some n, x) => u.vtr = x.vtr ∧ done = ⟨some ⟨n, none⟩, some ⟨n, none⟩, false, none⟩ ∧
           u.lnk = x.lnk.says s.now [.passage g none (some d) (some ⟨n, none⟩) false flag missing at_ s.now none])) ∧
  (∀ (s u : State) (g : GateNo) (c : Contact) (done : Passed), s.powered = true → Accepts s g c false → PassageEnds s g c →
     s.complete g (s.gate g).flag (s.gate g).missing (s.gate g).engagedAt = (done, u) →
     ((s.topo.gates[g]).role = .plain → ∃ t, exec (.contactAccepted g c) s = .next t ∧ t.vtr = u.vtr ∧
       Settles [.gates, .vehicles] [] [] s t ∧ Raises s t (passageOf s g (s.gate g).missing done)) ∧
     (∀ p leg, s.topo.exitPoint g = some (p, leg) → ∃ t, exec (.contactAccepted g c) s = .next t ∧
       Settles [.gates, .vehicles] [] [p] s t ∧ Raises s t (passageOf s g (s.gate g).missing done) ∧
       ExitTaken s u t g p leg done.placed) ∧
     ((s.topo.gates[g]).role = .entry → ∃ t, exec (.contactAccepted g c) s = .next t ∧ Settles [.gates, .vehicles] [] [] s t ∧
       GivesUp s.vtr t.vtr g (s.gate g).flag s.now))

/-! ## Points -/

/-- R141, R145, R156: READ_POINT reports the point as it stands; POINT_ROUTE sets the route override and nothing else; POINT_EXERCISE
is refused unless the point is SET or MOVING, and otherwise sets the exercise request. -/
def Obligations.PointRequestsAreServed : Prop :=
  ∀ (s : State) (tag b : Byte) (p : PointNo), b.toNat = p.val → s.fitted p = true →
    (Ready s (.readPoint tag (some b)) → ∃ r,
      OnlyReplies (.readPoint tag (some b)) s 0x08 tag (.ok (.point r)) ∧ r.record = s.point p ∧
      r.det0 = s.pins.det0[p] ∧ r.det1 = s.pins.det1[p] ∧
      (r.drive0 = true ↔ (s.point p).state = .moving ∧ (s.point p).leg = .zero) ∧
      (r.drive1 = true ↔ (s.point p).state = .moving ∧ (s.point p).leg = .one) ∧
      (r.lamp0, r.lamp1, r.lampX) = s.lamps p ∧ r.age = age s.now (s.point p).proving.proofTime ∧
      r.moveLeft = (s.point p).moveTimer.map (timeLeft s.now) ∧
      r.quietLeft = (s.point p).proving.quietTimer.map (timeLeft s.now) ∧
      r.reservations = ((s.point p).reservations.map fun q => (q, timeLeft s.now q.expires)) ∧
      r.entries.map (·.entry) = (s.point p).queue) ∧
    (∀ v : Byte, Ready s (.pointRoute tag (some ⟨b, v⟩)) →
      if 2 < v.toNat then OnlyReplies (.pointRoute tag (some ⟨b, v⟩)) s 0x16 tag (.refuse .badValue)
      else exec (.pointRoute tag (some ⟨b, v⟩)) s = .next { s with
        lnk := s.lnk.answered 0x16 tag (.ok .none)
        ptc := { s.ptc with points := (s.ptc.points.set p { s.point p with
          route := if v = 0 then .fixed .zero else if v = 1 then .fixed .one else .auto }) } }) ∧
    (Ready s (.pointExercise tag (some b)) →
      if (s.point p).state = .set ∨ (s.point p).state = .moving then
        ∃ t, exec (.pointExercise tag (some b)) s = .next t ∧ Answered s t 0x18 tag (.ok .none) [] ∧ Settles [] [] [p] s t ∧
          PointStands (s.setPoint p { s.point p with proving := { (s.point p).proving with request := true } }) t p
      else OnlyReplies (.pointExercise tag (some b)) s 0x18 tag (.refuse .state))

/-- R142, R155: POINT_SERVICE. OUT in MOVING waits for the end of the movement, the exercise ending at once (assumption log 15);
in any other state it takes the point out of service. IN brings it back to the leg its detectors prove, to FAILED when they are
inconsistent, its notice naming no leg (assumption log 36), and in MOVING clears service-out pending. A value above 1 is refused
(R189). -/
def Obligations.PointServiceIsTaken : Prop :=
  ∀ (s : State) (tag b v : Byte) (p : PointNo), b.toNat = p.val → s.fitted p = true →
    Ready s (.pointService tag (some ⟨b, v⟩)) →
    if 1 < v.toNat then OnlyReplies (.pointService tag (some ⟨b, v⟩)) s 0x17 tag (.refuse .badValue)
    else if (v = 0 ∧ (s.point p).state = .outOfService) ∨
        (v = 1 ∧ (s.point p).state ≠ .outOfService ∧ (s.point p).state ≠ .moving) then
      OnlyReplies (.pointService tag (some ⟨b, v⟩)) s 0x17 tag (.ok .none)
    else ∃ t bs, exec (.pointService tag (some ⟨b, v⟩)) s = .next t ∧ Settles [] [] [p] s t ∧
      Answered s t 0x17 tag (.ok .none) bs ∧ ∃ r, PointStands (s.setPoint p r) t p ∧
        if v = 0 ∧ (s.point p).state = .moving then
          r = { s.point p with serviceOut := true, proving := { (s.point p).proving with phase := .idle } } ∧ bs = []
        else if v = 0 then
          r = { s.point p with
            state := .outOfService, failure := none, serviceOut := false, moveTimer := none, arrivalWait := none
            detectionWait := none, proving := { (s.point p).proving with phase := .idle } } ∧ bs = []
        else if (s.point p).state = .moving then r = { s.point p with serviceOut := false } ∧ bs = []
        else match s.provenLeg p with
          | some l => r = { s.point p with leg := l, failure := none, state := if (s.point p).confirmed then .set else .unknown } ∧
              bs = (if (s.point p).confirmed = true then [.pointSet p l .service .none] else [])
          | none => r.state = (if (s.point p).serviceOut then .outOfService else .failed) ∧
              r.failure = (if (s.point p).serviceOut then none else some .detection) ∧ r.queue = (s.point p).queue ∧
              r.confirmed = (s.point p).confirmed ∧ bs = [.pointFailed p .detection none s.pins.det0[p] s.pins.det1[p]]

/-- R143, R144: POINT_RESET brings a FAILED point whose detectors prove a leg to SET there when its zone is confirmed, to UNKNOWN
otherwise, with proof demand after a MOVE or DETECTION failure. ZONE_CLEAR confirms a zone, which takes a point in UNKNOWN to SET. -/
def Obligations.PointIsResetAndZoneConfirmed : Prop :=
  ∀ (s : State) (tag b : Byte) (p : PointNo), b.toNat = p.val → s.fitted p = true →
    (Ready s (.pointReset tag (some b)) →
      ((s.point p).state ≠ .failed ∨ s.provenLeg p = none →
        OnlyReplies (.pointReset tag (some b)) s 0x19 tag (.refuse .state)) ∧
      ∀ l, (s.point p).state = .failed → s.provenLeg p = some l →
        ∃ t, exec (.pointReset tag (some b)) s = .next t ∧ Settles [] [] [p] s t ∧
          Answered s t 0x19 tag (.ok .none) (if (s.point p).confirmed = true then [.pointSet p l .reset .none] else []) ∧
          PointStands (s.setPoint p { s.point p with
            leg := l, failure := none, state := if (s.point p).confirmed then .set else .unknown
            proofDemand := (s.point p).proofDemand ||
              decide ((s.point p).failure = some .move ∨ (s.point p).failure = some .detection) }) t p) ∧
    (Ready s (.zoneClear tag (some b)) →
      ((s.point p).confirmed = true → OnlyReplies (.zoneClear tag (some b)) s 0x1A tag (.refuse .state)) ∧
      ((s.point p).confirmed = false →
        ∃ t, exec (.zoneClear tag (some b)) s = .next t ∧ Settles [] [] [p] s t ∧
          Answered s t 0x1A tag (.ok .none) (if (s.point p).state = .unknown then [.pointSet p (s.point p).leg .zoneClear .none] else []) ∧
          PointStands (s.setPoint p { s.point p with
            confirmed := true, state := if (s.point p).state = .unknown then .set else (s.point p).state }) t p))

/-- R133, R134: a movement starts only from SET, in RUN, with service-out pending clear and no proceed-given mark on the head: for
the head when its leg is another one and is not barred, and otherwise on proof demand, to the other leg. The move timer starts,
and the arrival wait when the detectors already prove the target. When nothing is to start the event does nothing.
R152, R154: an exercise starts from SET in RUN with the phase IDLE, an empty zone queue and neither service-out pending nor
proof demand, when the level is OVERDUE or LAPSED, one has been asked for, or the level is DUE and the point ready; it moves to
the other leg, barred or not. A return starts from RETURN_WAIT likewise, to the home leg. -/
def Obligations.MovementsAndExercisesStart : Prop :=
  (∀ (s : State) (p : PointNo), s.powered = true →
     match (if s.fitted p = true ∧ (s.point p).state = .set ∧ s.sst.mode = .run ∧ (s.point p).serviceOut = false ∧
         (∀ e ∈ (s.point p).queue.head?, e.mark = none) then
         (match (s.point p).queue.head? with
         | some e => if e.leg ≠ (s.point p).leg ∧ s.barred p e.leg = false then some e.leg
           else if (s.point p).proofDemand = true then some (s.point p).leg.other else none
         | none => if (s.point p).proofDemand = true then some (s.point p).leg.other else none)
       else none : Option Leg) with
     | none => NothingToDo (.movementStart p) s
     | some target => ∃ t, exec (.movementStart p) s = .next t ∧ Says s t [] ∧ Settles [] [] [p] s t ∧
         t.drive p target = true ∧ t.drive p target.other = false ∧
         PointStands (s.setPoint p { s.point p with
           state := .moving, leg := target, detectionWait := none
           moveTimer := some (later s.now (s.pointSet p).tMove)
           arrivalWait := if s.provenLeg p = some target then some (later s.now 50) else none }) t p) ∧
  (∀ (s : State) (p : PointNo), s.powered = true →
     (if s.fitted p = true ∧ (s.point p).state = .set ∧ s.sst.mode = .run ∧ (s.point p).serviceOut = false ∧
         (s.point p).proofDemand = false ∧ (s.point p).queue = [] ∧ (s.point p).proving.phase = .idle ∧
         ((s.point p).proving.level = .overdue ∨ (s.point p).proving.level = .lapsed ∨ (s.point p).proving.request = true ∨
           ((s.point p).proving.level = .due ∧ (s.point p).proving.ready = true)) then
       ∃ t, exec (.exerciseStart p) s = .next t ∧ Says s t [] ∧ Settles [] [] [p] s t ∧
         (t.point p).state = .moving ∧ (t.point p).leg = (s.point p).leg.other ∧
         (t.point p).proving.phase = .outbound ∧ (t.point p).moveTimer = some (later s.now (s.pointSet p).tMove)
     else NothingToDo (.exerciseStart p) s) ∧
     (if s.fitted p = true ∧ (s.point p).state = .set ∧ s.sst.mode = .run ∧ (s.point p).serviceOut = false ∧
         (s.point p).proofDemand = false ∧ (s.point p).queue = [] ∧ (s.point p).proving.phase = .returnWait then
       ∃ t, exec (.exerciseReturn p) s = .next t ∧ Says s t [] ∧ Settles [] [] [p] s t ∧
         (t.point p).state = .moving ∧ (t.point p).leg = (s.point p).proving.home ∧
         (t.point p).proving.phase = .returning ∧ (t.point p).moveTimer = some (later s.now (s.pointSet p).tMove)
     else NothingToDo (.exerciseReturn p) s))

/-- R126, R134, R135: the detectors prove a leg while one alone is active. A change of them starts or stops the arrival wait of a
point in MOVING and the detection wait of one in SET or UNKNOWN; an unfitted point's are not examined (R9). -/
def Obligations.DetectorsAreWatched : Prop :=
  ∀ (s u : State) (p : PointNo) (d0 d1 : Bool), s.powered = true → u = s.setDetectors p d0 d1 →
    u.provenLeg p = (if d0 = true ∧ d1 = false then some .zero else if d0 = false ∧ d1 = true then some .one else none) ∧
    (s.fitted p = false → exec (.detectorChange p d0 d1) s = .next { u with lnk := s.lnk.begin }) ∧
    (s.fitted p = true → ∃ t r, exec (.detectorChange p d0 d1) s = .next t ∧ Says s t [] ∧ Settles [.pins] [] [p] s t ∧
      t.pins = u.pins ∧ PointStands (s.setPoint p r) t p ∧
      match (s.point p).state with
      | .moving => r = { s.point p with arrivalWait :=
          (if u.provenLeg p = some (s.point p).leg then some ((s.point p).arrivalWait.getD (later s.now 50)) else none) }
      | .set | .unknown => r = { s.point p with detectionWait :=
          (if u.provenLeg p = some (s.point p).leg then none else some ((s.point p).detectionWait.getD (later s.now 200))) }
      | .failed | .outOfService => r = s.point p)

/-- R134, R148, R153–R155: the arrival wait that runs out in MOVING puts the point in SET at its target, a proof recorded and proof
demand cleared. An OUTBOUND arrival with the zone queue empty waits in RETURN_WAIT, which in RUN starts the return at once; any
other arrival, and one that goes out of service, ends or has no exercise. The move timer that expires in MOVING, and the detection wait that runs out in SET or UNKNOWN (R135), put it in
FAILED. With service-out pending it then goes out of service. Otherwise these expiries do nothing. -/
def Obligations.MovementsEnd : Prop :=
  ∀ (s : State) (p : PointNo), s.powered = true →
    (if s.fitted p = true ∧ (s.point p).state = .moving ∧ isDue s.now (s.point p).arrivalWait = true then
      ∃ t, exec (.arrivalWaitExpiry p) s = .next t ∧ Settles [] [] [p] s t ∧
        Says s t [.pointSet p (s.point p).leg .movement (match (s.point p).proving.phase with
          | .outbound => .outbound
          | .returning => .returning
          | .idle | .returnWait => .none)] ∧
        (t.point p).proofDemand = false ∧ (t.point p).proving.proofTime = s.now ∧ (t.point p).proving.level = .fresh ∧
        (t.point p).proving.request = false ∧ (t.point p).proving.proofs = min 65535 ((s.point p).proving.proofs + 1) ∧
        (t.point p).serviceOut = false ∧
        (if (s.point p).serviceOut = true then (t.point p).state = .outOfService
        else ((t.point p).state = .set ∧ (t.point p).leg = (s.point p).leg) ∨ (t.point p).state = .moving) ∧
        (if (s.point p).serviceOut = true ∨ (s.point p).proving.phase ≠ .outbound ∨ (s.point p).queue ≠ [] then
          (t.point p).proving.phase = .idle
        else if s.sst.mode = .run then
          (t.point p).proving.phase = .returning ∧ (t.point p).state = .moving ∧ (t.point p).leg = (s.point p).proving.home ∧
          (t.point p).moveTimer = some (later s.now (s.pointSet p).tMove)
        else (t.point p).proving.phase = .returnWait ∧ (t.point p).state = .set)
    else NothingToDo (.arrivalWaitExpiry p) s) ∧
    (if s.fitted p = true ∧ (s.point p).state = .moving ∧ isDue s.now (s.point p).moveTimer = true then
      ∃ t, exec (.moveTimerExpiry p) s = .next t ∧ Settles [] [] [p] s t ∧
        Says s t [.pointFailed p .move (some (s.point p).leg) s.pins.det0[p] s.pins.det1[p]] ∧
        (if (s.point p).serviceOut = true then (t.point p).state = .outOfService
        else (t.point p).state = .failed ∧ (t.point p).failure = some .move) ∧
        (t.point p).proving.phase = .idle ∧ (t.point p).proving.proofs = (s.point p).proving.proofs
    else NothingToDo (.moveTimerExpiry p) s) ∧
    (if s.fitted p = true ∧ ((s.point p).state = .set ∨ (s.point p).state = .unknown) ∧
        isDue s.now (s.point p).detectionWait = true then
      ∃ t, exec (.detectionWaitExpiry p) s = .next t ∧ Settles [] [] [p] s t ∧
        Says s t [.pointFailed p .detection (some (s.point p).leg) s.pins.det0[p] s.pins.det1[p]] ∧
        (if (s.point p).serviceOut = true then (t.point p).state = .outOfService
        else (t.point p).state = .failed ∧ (t.point p).failure = some .detection) ∧
        (t.point p).proving.phase = .idle ∧ (t.point p).queue.map (·.slot) = (s.point p).queue.map (·.slot)
    else NothingToDo (.detectionWaitExpiry p) s)

/-- R138: an overdue timer that expires with its entry still the head hands OVERDUE for the slot to the tracker (R159), once for the
entry; the entry keeps its mark. That the exit leg of the OVERDUE is the entry's leg is the model's choice (assumption log 22). -/
def Obligations.OverdueIsHandedOn : Prop :=
  ∀ (s : State) (p : PointNo), s.powered = true →
    ((∀ h ∈ (s.point p).queue.head?, isDue s.now h.overdue = false) → NothingToDo (.overdueTimerExpiry p) s) ∧
    ∀ h rest, s.fitted p = true → (s.point p).queue = h :: rest → isDue s.now h.overdue = true →
      exec (.overdueTimerExpiry p) s = .next
        ((s.setPoint p { s.point p with queue := { h with overdue := none } :: rest }).applyFault h.slot (.overdue p h.leg)).transmit

/-- R149, R150, R151: the level of an age by T_prove and T_grace, LAPSED lasting until a proof; the entry to LAPSED is reported. A
change of level stops the quiet timer and ends readiness; the quiet timer that expires makes the point ready. -/
def Obligations.ProvingIsJudged : Prop :=
  ∀ (s : State) (p : PointNo), s.powered = true →
    (∀ a : Nat,
      (a < (s.pointSet p).tProve → levelFor (s.pointSet p) a = .fresh) ∧
      ((s.pointSet p).tProve ≤ a → a < (s.pointSet p).tProve + (s.pointSet p).tGrace → levelFor (s.pointSet p) a = .due) ∧
      ((s.pointSet p).tProve + (s.pointSet p).tGrace ≤ a → a < (s.pointSet p).tProve + 2 * (s.pointSet p).tGrace →
        levelFor (s.pointSet p) a = .overdue) ∧
      ((s.pointSet p).tProve + 2 * (s.pointSet p).tGrace ≤ a → levelFor (s.pointSet p) a = .lapsed)) ∧
    ((s.point p).proving.level = .lapsed → NothingToDo (.provingLevelChange p) s) ∧
    (∀ l, s.fitted p = true → (s.point p).proving.level ≠ .lapsed →
      l = levelFor (s.pointSet p) (age s.now (s.point p).proving.proofTime) →
      if l = (s.point p).proving.level then NothingToDo (.provingLevelChange p) s
      else ∃ t, exec (.provingLevelChange p) s = .next t ∧ Settles [] [] [p] s t ∧
        Says s t (if l = .lapsed then [.pointLapsed p (s.point p).state
          (if (s.point p).state = .set ∨ (s.point p).state = .unknown then some (s.point p).leg else none)
          (s.point p).proving.proofTime s.now] else []) ∧
        PointStands (s.setPoint p { s.point p with proving :=
          { (s.point p).proving with level := l, quietTimer := none, ready := false } }) t p) ∧
    (if s.fitted p = true ∧ isDue s.now (s.point p).proving.quietTimer = true then
      ∃ t, exec (.quietTimerExpiry p) s = .next t ∧ Says s t [] ∧ Settles [] [] [] s t ∧
        ((t.point p).proving.ready = s.quiet p ∨ ((s.point p).state = .set ∧ (t.point p).state = .moving))
    else NothingToDo (.quietTimerExpiry p) s)

/-- R127, R128: six bytes that begin a telegram, sum to 0 modulo 256 and hold a reader 0–15, a fleet number 1–9999 and a request
0–2 are taken as a reservation of the reader's point, when that is fitted and has its tag reader enabled: renewed in place,
appended, or appended after the oldest is dropped. One with another field leaves no trace; one whose sum fails leaves none of its
own, what follows its first byte being taken as if it had not come; and bytes before any telegram leave none. A gap discards what
has been assembled; a reservation that expires is removed. -/
def Obligations.TelegramsAreTaken : Prop :=
  ∀ s : State, s.powered = true →
    (∀ (p : PointNo) (lo hi request sum : Byte) (fleet : Nat) (leg : Option Leg), s.ptc.rx = [] →
      0x54 + BitVec.ofNat 8 p.val + lo + hi + request + sum = (0 : Byte) →
      fleet = lo.toNat + 256 * hi.toNat → 1 ≤ fleet → fleet ≤ 9999 →
      (request = 0 ∧ leg = some .zero ∨ request = 1 ∧ leg = some .one ∨ request = 2 ∧ leg = none) →
      ∃ t r, exec (.telegramReceived [0x54, BitVec.ofNat 8 p.val, lo, hi, request, sum]) s = .next t ∧
        Says s t [] ∧ Settles [] [] [p] s t ∧ PointStands (s.setPoint p r) t p ∧
        r = (if s.fitted p = true ∧ (s.pointSet p).tagReader = true then { s.point p with reservations :=
            if ∃ q ∈ (s.point p).reservations, q.fleet = fleet then
              ((s.point p).reservations.map fun q =>
                if q.fleet = fleet then ⟨fleet, leg, s.now, later s.now (s.pointSet p).tResv⟩ else q)
            else if (s.point p).reservations.length < 2 then
              (s.point p).reservations ++ [⟨fleet, leg, s.now, later s.now (s.pointSet p).tResv⟩]
            else (s.point p).reservations.tail ++ [⟨fleet, leg, s.now, later s.now (s.pointSet p).tResv⟩] }
          else s.point p)) ∧
    (∀ (reader lo hi request sum : Byte), s.ptc.rx = [] → 0x54 + reader + lo + hi + request + sum = (0 : Byte) →
      15 < reader.toNat ∨ lo.toNat + 256 * hi.toNat = 0 ∨ 9999 < lo.toNat + 256 * hi.toNat ∨ 2 < request.toNat →
      ∃ t, exec (.telegramReceived [0x54, reader, lo, hi, request, sum]) s = .next t ∧ Says s t [] ∧ Settles [] [] [] s t) ∧
    (∀ (b1 b2 b3 b4 b5 : Byte), s.ptc.rx = [] → 0x54 + b1 + b2 + b3 + b4 + b5 ≠ (0 : Byte) →
      exec (.telegramReceived [0x54, b1, b2, b3, b4, b5]) s = exec (.telegramReceived [b1, b2, b3, b4, b5]) s) ∧
    (∀ frame : List Byte, s.ptc.rx = [] → (∀ b ∈ frame, b ≠ 0x54) →
      ∃ t, exec (.telegramReceived frame) s = .next t ∧ Says s t [] ∧ Settles [] [] [] s t) ∧
    exec .telegramByteTimeout s = .next { s with ptc := { s.ptc with rx := [] }, lnk := s.lnk.begin } ∧
    (∀ (p : PointNo) (fleet : Nat),
      if s.fitted p = true ∧ ∃ q ∈ (s.point p).reservations, q.fleet = fleet ∧ reached s.now q.expires = true then
        ∃ t, exec (.reservationExpiry p fleet) s = .next t ∧ Says s t [] ∧ Settles [] [] [p] s t ∧
          (t.point p).reservations =
            ((s.point p).reservations.filter fun q => !(q.fleet == fleet && reached s.now q.expires))
      else NothingToDo (.reservationExpiry p fleet) s)

/-- R139, R138: every step of a powered part whose fitted points show the aspect that the first row of the table gives leaves them
so, and every head whose leg is shown with the proceed-given mark: both are taken up at the end of each event. That an event's
end is the moment at which they are taken up is the model's choice (assumption logs 7 and 25). -/
def Obligations.AspectsAreDerived : Prop := ∀ s t : State, AspectsShown s → step s = .next t → AspectsShown t

/-- R140: the lamps of a powered part by the aspect and the time since the cadence phase, which each change of aspect resets. That
the aspect is derived once, at the end of each event, so that the phase is kept where the aspect before and after is the same, is
the model's choice (assumption logs 7 and 25). -/
def Obligations.LampsAreLit : Prop :=
  ∀ (s : State) (p : PointNo) (t : Nat), s.powered = true → t = age s.now (s.point p).cadence →
    s.lamps p = (match (s.point p).aspect with
      | .dark => (false, false, false)
      | .proceed .zero => (true, false, false)
      | .proceed .one => (false, true, false)
      | .caution .zero => (decide (t % 1000 < 500), false, false)
      | .caution .one => (false, decide (t % 1000 < 500), false)
      | .moving .zero => (decide (t % 500 < 250), false, false)
      | .moving .one => (false, decide (t % 500 < 250), false)
      | .stop => (false, false, decide (t % 1000 < 125 ∨ (250 ≤ t % 1000 ∧ t % 1000 < 375)))) ∧
    (s.fitted p = true → (s.takeUp.point p).cadence =
      if (s.takeUp.point p).aspect = (s.point p).aspect then (s.point p).cadence else s.now)

/-! ## Gates -/

/-- R92: a change of a contact's input starts its stability wait of 5 ms again, or stops it when the input is back at the accepted
level; the current flag is only read when it is needed.
R92, R94, R95, R96, R98, R99, R100: what an accepted change of a contact does to the gate. An unused gate takes the level only.
An activation engages an ARMED gate, or marks its contact seen; a deactivation that leaves both contacts idle completes the
passage, in ENGAGED once both have been seen, or ends settling. No other gate changes.
R101, R108, R109, R129–R131: an engagement lets the head of the from-queue, or the expected record at an ENTRY gate, take the gate,
if there is one. The positive contact's first activation at an ENTRY gate in ARMED or ENGAGED makes the entry report of its
point, with the flag read then. No other change that ends no passage touches the account or the points. -/
def Obligations.ContactsAreAccepted : Prop :=
  (∀ (s : State) (g : GateNo) (active : Bool), s.powered = true →
     exec (.contactInputChange g .positive active) s = .next { s with
       pins := { s.pins with positive := s.pins.positive.set g active }
       gsc := (if s.pins.positive[g] = active then s.gsc
         else s.gsc.set g { s.gate g with posWait := (if active = (s.gate g).posLevel then none else some (later s.now 5)) })
       lnk := s.lnk.begin } ∧
     exec (.contactInputChange g .negative active) s = .next { s with
       pins := { s.pins with negative := s.pins.negative.set g active }
       gsc := (if s.pins.negative[g] = active then s.gsc
         else s.gsc.set g { s.gate g with negWait := (if active = (s.gate g).negLevel then none else some (later s.now 5)) })
       lnk := s.lnk.begin } ∧
     exec (.contactInputChange g .currentFlag active) s = .next { s with
       pins := { s.pins with currentFlag := s.pins.currentFlag.set g active }, lnk := s.lnk.begin }) ∧
  (∀ (s : State) (g : GateNo) (c : Contact), s.powered = true →
     (isDue s.now (s.stability g c) = false ∨ s.contactInput g c = s.acceptedLevel g c → NothingToDo (.contactAccepted g c) s) ∧
     ∀ (active : Bool) (r : GateRec), isDue s.now (s.stability g c) = true → s.contactInput g c = active →
       s.acceptedLevel g c ≠ active →
       r = (match c with
         | .positive => { s.gate g with posLevel := active, posWait := none }
         | .negative => { s.gate g with negLevel := active, negWait := none }) →
       (s.topo.isUsed g = false → exec (.contactAccepted g c) s = .next { s with gsc := s.gsc.set g r, lnk := s.lnk.begin }) ∧
       (s.topo.isUsed g = true → ∃ t, exec (.contactAccepted g c) s = .next t ∧
         KeptBut (.link :: .gates :: .vehicles :: settleParts) s t ∧ (∀ h, h ≠ g → t.gate h = s.gate h) ∧
         t.gate g = (
           if r.settling = true then
             (if r.posLevel = false ∧ r.negLevel = false
             then { r with state := .armed, settling := false, stuckTimer := none, stuck := false } else r)
           else match r.state, active with
             | .armed, false => r
             | .armed, true => { r with
                 state := .engaged, engagedAt := s.now, posSeen := decide (c = .positive), negSeen := decide (c = .negative)
                 missing := .none, stuck := false
                 flag := (if c = .positive then (if s.pins.currentFlag[g] = true then .drawing else .coasting) else .unknown)
                 poleTimer := some (later s.now (s.gateSet g).tPole), stuckTimer := some (later s.now (s.gateSet g).tStuck) }
             | .engaged, true | .held, true => (match c with
                 | .negative => { r with negSeen := true, poleTimer := if r.posSeen then none else r.poleTimer }
                 | .positive => if r.posSeen = true then r else { r with
                     posSeen := true, flag := (if s.pins.currentFlag[g] = true then .drawing else .coasting)
                     poleTimer := if r.negSeen then none else r.poleTimer })
             | .engaged, false =>
                 if r.posSeen = true ∧ r.negSeen = true ∧ r.posLevel = false ∧ r.negLevel = false
                 then { r with state := .armed, poleTimer := none, stuckTimer := none, stuck := false } else r
             | .held, false =>
                 if r.posLevel = false ∧ r.negLevel = false
                 then { r with state := .armed, poleTimer := none, stuckTimer := none, stuck := false } else r))) ∧
  (∀ (s : State) (g : GateNo) (c : Contact) (active : Bool) (engaging : Vtr), s.powered = true → s.topo.isUsed g = true →
     Accepts s g c active →
     engaging = (match engagedBy s g with
       | none => s.vtr
       | some n => s.vtr.takes n g s.now) →
     ∃ t, exec (.contactAccepted g c) s = .next t ∧
       ((s.gate g).settling = true ∨ (active = false ∧ ¬PassageEnds s g c) ∨
           (active = true ∧ (s.gate g).state ≠ .armed ∧ (c = .negative ∨ (s.gate g).posSeen = true ∨ (s.gate g).state = .held ∨
             s.topo.entryPoint g = none)) →
         t.vtr = s.vtr ∧ Settles [.gates] [] [] s t) ∧
       ((s.gate g).settling = false → active = true → (s.gate g).state = .armed → c = .negative ∨ s.topo.entryPoint g = none →
         t.vtr = engaging ∧ Settles [.gates, .vehicles] [] [] s t) ∧
       (∀ p, (s.gate g).settling = false → active = true → c = .positive → s.topo.entryPoint g = some p →
         ((s.gate g).state = .armed → EntryTaken s { s with gsc := t.gsc, vtr := engaging } t p
           (if s.pins.currentFlag[g] = true then .drawing else .coasting)) ∧
         ((s.gate g).state = .engaged → (s.gate g).posSeen = false → EntryTaken s { s with gsc := t.gsc } t p
           (if s.pins.currentFlag[g] = true then .drawing else .coasting))))

/-- R97, R98, R99, R110, R159: the pole timer that expires in ENGAGED with one contact seen records the missing pole and puts the gate
in HELD. The pole fault is laid on the record that holds the gate, or reported without one; at an ENTRY gate whose positive contact
has not been seen the entry report follows it, with the flag UNKNOWN (R101). With both contacts idle the passage completes at once
(R98): at a PLAIN gate or an exit gate of a point the head moves on with its PASSAGE notice (R111), the exit being handed to the
point (R136, R137), and at an ENTRY gate the record that holds the gate gives it up (R109), though the entry report has only just put
it there; a stuck mark is cleared. The stuck timer that expires with the gate engaged sets the stuck mark and raises GATE_STUCK,
nothing else.
R115–R119, R104, R162: the vehicle at an entry, which an entry report asks for. Without a bound number it is the expected record, or
one claimed or created. A bound number is reconciled by the first case that applies: the expected record has it; the one behind it
has it, and they change places; the expected record is anonymous and takes it; another record has it, and is moved to the entry; or
a record is created there. The record that answers takes the gate. That a record created there takes the flag of the report, and
that a moved one takes the entry time of the moment, are the model's choices (assumption logs 19 and 22), and so are the order of
the slots in ORDER_CONFLICT and the displaced record named where there is no room (assumption log 36). -/
def Obligations.GateTimersExpire : Prop :=
  (∀ (s : State) (g : GateNo), s.powered = true →
     (if s.topo.isUsed g = true ∧ (s.gate g).state = .engaged ∧ (s.gate g).settling = false ∧
         isDue s.now (s.gate g).poleTimer = true ∧ (s.gate g).posSeen ≠ (s.gate g).negSeen then
       ∃ t, exec (.poleTimerExpiry g) s = .next t ∧ KeptBut (.link :: .gates :: .vehicles :: settleParts) s t ∧
         (∀ h, h ≠ g → t.gate h = s.gate h) ∧
         (∀ u : State, u = (match s.holder g with
             | none => s.raise (.strayPoleFault g (s.gate g).lacks s.now)
             | some n => (s.setVehicle n ((s.vehicle n).map fun v => { v with lastActivity := s.now })).applyFault n
                 (.poleFault g (s.gate g).lacks)) →
           (∃ more, t.lnk = (u.lnk.says s.now more).begin) ∧
           ((s.gate g).posLevel = true ∨ (s.gate g).negLevel = true →
             ((s.gate g).posSeen = true ∨ s.topo.entryPoint g = none → t.vtr = u.vtr ∧ Settles [.gates, .vehicles] [] [] s t) ∧
             (∀ p, (s.gate g).posSeen = false → s.topo.entryPoint g = some p →
               EntryTaken s { u with gsc := t.gsc } t p .unknown)) ∧
           ((s.gate g).posLevel = false → (s.gate g).negLevel = false →
             ((s.gate g).stuck = true → Raises s t (.gateCleared g s.now)) ∧
             (∀ (done : Passed) (x : State), u.complete g (s.gate g).flag (s.gate g).lacks (s.gate g).engagedAt = (done, x) →
               ((s.topo.gates[g]).role = .plain → t.vtr = x.vtr ∧ Settles [.gates, .vehicles] [] [] s t ∧
                 Raises s t (passageOf s g (s.gate g).lacks done)) ∧
               (∀ p leg, s.topo.exitPoint g = some (p, leg) → Settles [.gates, .vehicles] [] [p] s t ∧
                 Raises s t (passageOf s g (s.gate g).lacks done) ∧ ExitTaken s x t g p leg done.placed)) ∧
             ((s.topo.gates[g]).role = .entry → (s.gate g).posSeen = true ∨ s.topo.entryPoint g = none →
               Settles [.gates, .vehicles] [] [] s t ∧ GivesUp u.vtr t.vtr g (s.gate g).flag s.now) ∧
             (∀ p, (s.gate g).posSeen = false → s.topo.entryPoint g = some p → ∃ account : Vtr,
               EntryTaken s { u with gsc := s.gsc.set g (s.gate g).missed } { t with vtr := account } p .unknown ∧
               GivesUp account t.vtr g (s.gate g).flag s.now))) ∧
         t.gate g = (
           if (s.gate g).posLevel = false ∧ (s.gate g).negLevel = false then { s.gate g with
             state := .armed, missing := (s.gate g).lacks, poleTimer := none, stuckTimer := none, stuck := false }
           else (s.gate g).missed)
     else NothingToDo (.poleTimerExpiry g) s) ∧
     (if s.topo.isUsed g = true ∧ (s.gate g).state ≠ .armed ∧ isDue s.now (s.gate g).stuckTimer = true then
       exec (.stuckTimerExpiry g) s = .next { s with
         gsc := s.gsc.set g { s.gate g with stuck := true, stuckTimer := none }
         lnk := (s.lnk.says s.now [.gateStuck g (s.topo.gates[g]).role (s.gate g).engagedAt (s.gate g).posSeen (s.gate g).negSeen
           (s.gate g).posLevel (s.gate g).negLevel (s.gate g).missing (s.gate g).settling]).begin }
     else NothingToDo (.stuckTimerExpiry g) s)) ∧
  (∀ (u : State) (p : PointNo) (flag : CurrentFlag) (g : GateNo) (a : SegmentNo) (k : Nat),
     g = (u.topo.points[p]).entry → a = (u.topo.points[p]).approach → k = (u.point p).queue.length → (u.gate g).state ≠ .armed →
     (∀ n, (u.queue a)[k]? = some n →
       u.vehicleAtEntry p none flag = (some n, { u with vtr := u.vtr.takes n g u.now })) ∧
     ((u.queue a)[k]? = none → 0 < u.untracked a →
       u.vehicleAtEntry p none flag =
         match ({ u with vtr := { u.vtr with untracked := u.vtr.untracked.set a (u.untracked a - 1) } } : State).create
             a 8 none flag with
         | (none, x) => (none, x)
         | (some n, x) => (some n, { x with vtr := x.vtr.takes n g u.now })) ∧
     ((u.queue a)[k]? = none → u.untracked a = 0 →
       u.vehicleAtEntry p none flag = match u.create a 8 none flag with
         | (none, x) => (none, x)
         | (some n, x) => (some n, { x with
             vtr := x.vtr.takes n g u.now, lnk := x.lnk.says u.now [.appeared g a n none none u.now] })) ∧
     ∀ fleet : Nat,
       (∀ n v, (u.queue a)[k]? = some n → u.vehicle n = some v → v.fleet = some fleet →
         u.vehicleAtEntry p (some fleet) flag = (some n, { u with vtr := ({ u.vtr with
           slots := u.vtr.slots.set n (some { v with flags := { v.flags with doubtful := false } }) } : Vtr).takes n g u.now })) ∧
       (∀ e w n v, (u.queue a)[k]? = some e → u.vehicle e = some w → w.fleet ≠ some fleet →
         (u.queue a)[k + 1]? = some n → u.vehicle n = some v → v.fleet = some fleet →
         u.vehicleAtEntry p (some fleet) flag = (some n, { u with
           lnk := u.lnk.says u.now [.orderConflict p ⟨e, w.fleet⟩ ⟨n, some fleet⟩ u.now]
           vtr := ({ u.vtr with
             queues := u.vtr.queues.set a (((u.queue a).set k n).set (k + 1) e)
             slots := u.vtr.slots.set n (some { v with flags := { v.flags with doubtful := false } }) } : Vtr).takes n g u.now })) ∧
       (∀ e w, (u.queue a)[k]? = some e → u.vehicle e = some w → w.fleet = none →
         (∀ n v, (u.queue a)[k + 1]? = some n → u.vehicle n = some v → v.fleet ≠ some fleet) →
         ((∀ n v, u.vehicle n = some v → v.fleet ≠ some fleet) →
           u.vehicleAtEntry p (some fleet) flag = (some e, { u with vtr := ({ u.vtr with slots := u.vtr.slots.set e (some
             { w with fleet := some fleet, flags := { w.flags with doubtful := false } }) } : Vtr).takes e g u.now })) ∧
         (∀ n v x, u.vehicle n = some v → v.fleet = some fleet →
           (∀ m r, m < n → u.vehicle m = some r → r.fleet ≠ some fleet) →
           x = ({ u with vtr := { u.vtr with slots := (u.vtr.slots.set n (some { v with fleet := none })).set e (some
             { w with fleet := some fleet, flags := { w.flags with doubtful := false } }) } } : State).applyFault n .doubtful →
           u.vehicleAtEntry p (some fleet) flag = (some e, { x with
             lnk := x.lnk.says u.now [.trackingRenamed p e fleet n v.segment], vtr := x.vtr.takes e g u.now }))) ∧
       ((u.queue a)[k]? = none ∨ (∃ e w other, (u.queue a)[k]? = some e ∧ u.vehicle e = some w ∧ w.fleet = some other ∧
           other ≠ fleet ∧ ∀ n v, (u.queue a)[k + 1]? = some n → u.vehicle n = some v → v.fleet ≠ some fleet) →
         ((∀ n v, u.vehicle n = some v → v.fleet ≠ some fleet) →
           u.vehicleAtEntry p (some fleet) flag =
             match ({ u with vtr := { u.vtr with untracked :=
                 if (u.queue a)[k]? = none then u.vtr.untracked.set a (u.untracked a - 1) else u.vtr.untracked } } : State).create
                 a k (some fleet) flag with
             | (none, x) => (none, x)
             | (some n, x) => (some n, { x with
                 vtr := x.vtr.takes n g u.now
                 lnk := x.lnk.says u.now (if (u.queue a)[k]? = none ∧ 0 < u.untracked a then []
                   else [.appeared g a n (some fleet) ((u.queue a)[k]?) u.now]) })) ∧
         (∀ n v x displaced y, u.vehicle n = some v → v.fleet = some fleet →
           (∀ m r, m < n → u.vehicle m = some r → r.fleet ≠ some fleet) →
           x = { u with
             vtr := { u.vtr with queues := u.vtr.queues.set v.segment ((u.queue v.segment).filter (· ≠ n)) }
             ptc := (match u.topo.pointOfApproach v.segment with
               | none => u.ptc
               | some q => { u.ptc with points := (u.ptc.points.set q
                   { u.point q with queue := (u.point q).queue.filter (·.slot ≠ n) }) }) } →
           displaced = (x.queue a)[(x.point p).queue.length]? →
           y = (match displaced with
             | none => (if (x.queue a).length < 8 then { x with vtr := { x.vtr with
                   slots := (x.vtr.slots.set n (some { v with
                     segment := a, gate := none, entryTime := u.now, lastActivity := u.now
                     flags := { v.flags with doubtful := false } }))
                   queues := x.vtr.queues.set a ((x.queue a).insertIdx (min (x.point p).queue.length (x.queue a).length) n)
                   untracked := x.vtr.untracked.set a (x.untracked a - 1) } }
                 else { x with
                   lnk := x.lnk.says u.now [.untracked a u.now .queueFull (some ⟨n, some fleet⟩) (min 7 (x.untracked a + 1))
                     (decide (7 ≤ x.untracked a))]
                   vtr := { x.vtr with
                     slots := x.vtr.slots.set n none, untracked := x.vtr.untracked.set a (min 7 (x.untracked a + 1)) } })
             | some e => (if (x.queue a).length < 8 then ({ x with vtr := { x.vtr with
                   slots := (x.vtr.slots.set n (some { v with
                     segment := a, gate := none, entryTime := u.now, lastActivity := u.now
                     flags := { v.flags with doubtful := false } }))
                   queues := x.vtr.queues.set a
                     ((x.queue a).insertIdx (min (x.point p).queue.length (x.queue a).length) n) } } : State)
                 else ({ x with
                   lnk := x.lnk.says u.now [.untracked a u.now .queueFull (some ⟨n, some fleet⟩) (min 7 (x.untracked a + 1))
                     (decide (7 ≤ x.untracked a))]
                   vtr := { x.vtr with
                     slots := x.vtr.slots.set n none, untracked := x.vtr.untracked.set a (min 7 (x.untracked a + 1)) } } :
                   State)).applyFault e .doubtful : State) →
           u.vehicleAtEntry p (some fleet) flag =
             (if (x.queue a).length < 8 then some n else none,
               { y with
                 lnk := y.lnk.says u.now [.trackingMoved p fleet n v.segment ((u.queue v.segment).idxOf n + 1)
                   (displaced.map fun e => ⟨e, (u.vehicle e).bind fun r => r.fleet⟩)]
                 vtr := if (x.queue a).length < 8 then y.vtr.takes n g u.now else y.vtr }))))

/-! ## Scans -/

/-- R14–R18, R21, R22, R26: a whole scan whose check agrees is accepted: it is stored, the overdue wait starts again at 2 ms, and its
measurement is delivered, its currents clamped, broken unless its sequence is its predecessor's plus 1. While BLIND it is
delivered with the BLIND mark until 16 in sequence have been accepted; the 16th ends BLIND and is delivered broken, the inrush
mask is set on every enabled feeder (assumption log 20) and the BLIND notice raised. That the valid run is 0 outside BLIND is the
model's choice (assumption log 29). A scan whose check fails, and bytes before any scan, leave nothing.
R14, R19, R20, R21: a gap discards the scan being assembled. The overdue wait that expires supplies a held measurement, the last
valid scan again, and starts again; the fourth in a row enters BLIND, with its notice. While BLIND it only takes the run of valid
scans back to 0.
R79, R80: each section with feeders takes the voltage, the counts and the energy state from an accepted scan; one delivered with
the BLIND mark sets the counts to 0, and a held scan changes nothing.
R79–R85: one section's part in a measurement: its voltage, its counts, its energy state with its notice, BACKFEED, which no
voltage that a feeder explains can enter, and SUPPLY_LOST, with what clears them. A bridging vehicle is given BRIDGING (R166).
R81–R83: the fed flag follows each change of a breaker; its setting clears the counts and both conditions, its clearing clears
SUPPLY_LOST, and a feeder that moves or tests sets the backfeed count to 0. That a fed flag which becomes set clears a SUPPLY_LOST
with a notice is the model's choice (assumption log 24), and so is that protection takes a measurement before the sections do
(assumption log 8). -/
def Obligations.ScansAreTaken : Prop :=
  (∀ s : State, s.powered = true → s.scp.rx = [] →
     (∀ frame : List Byte, frame.length = 56 → frame.head? = some 0x5A → crc16 ((frame.drop 1).take 53) = checkAt frame 54 →
       ∃ t m, exec (.scanReceived frame) s = .next t ∧ KeptBut measuredParts s t ∧ t.scp.rx = [] ∧ t.scp.last = scanOf frame ∧
         t.scp.lastTime = s.now ∧ t.scp.heldRun = 0 ∧ t.scp.overdueAt = later s.now 2 ∧ t.scp.latest = some m ∧
         m.held = false ∧ m.time = s.now ∧ m.seq = some ((byteAt frame 1).setWidth 4) ∧
         (∀ f : FeederNo, m.current[f] =
           ⟨max (-6000) (min 6000 (wordAt frame (2 + 2 * f.val)).toInt),
             decide ((wordAt frame (2 + 2 * f.val)).toInt < -6000 ∨ 6000 < (wordAt frame (2 + 2 * f.val)).toInt)⟩) ∧
         (∀ f : FeederNo, m.line[f] = min 1200 (wordAt frame (26 + 2 * f.val)).toNat) ∧
         m.busA = min 1200 (wordAt frame 50).toNat ∧ m.busB = min 1200 (wordAt frame 52).toNat ∧
         (s.scp.blind = false → t.scp.blind = false ∧ m.blind = false ∧
           (m.broken = false ↔ ∃ q, s.scp.last.seq = some q ∧ (byteAt frame 1).setWidth 4 = q + 1)) ∧
         (s.scp.blind = true → ∀ run,
           run = (if ∃ q ∈ s.scp.last.seq, (byteAt frame 1).setWidth 4 = q + 1 then s.scp.validRun + 1 else 1) →
           if run < 16 then t.scp.blind = true ∧ t.scp.validRun = run ∧ m.blind = true
           else t.scp.blind = false ∧ t.scp.validRun = 0 ∧ m.blind = false ∧ m.broken = true ∧
             Raises s t (.blindLeft s.scp.blindSince s.now) ∧
             ∀ f, s.enabled f = true → (t.protection f).mask = (s.feederSet f).nMask) ∧
         ∀ c, s.topo.enabledFeeders c ≠ [] →
           (m.blind = true → (t.sec c).voltage = (s.sec c).voltage ∧ (t.sec c).live = (s.sec c).live ∧
             (t.sec c).liveCount = 0 ∧ (t.sec c).deadCount = 0 ∧ (t.sec c).backfeedCount = 0) ∧
           (m.blind = false → (t.sec c).voltage = lineMax s c m ∧
             (t.sec c).liveCount = liveAfter (s.sectionSet c) (s.sec c) (lineMax s c m) ∧
             (FedFlagsTrue s → (t.sec c).deadCount = deadAfter (s.sectionSet c) (s.sec c) (lineMax s c m) ∧
               (t.sec c).live = energyAfter (s.sectionSet c) (s.sec c) (lineMax s c m)) ∧
             ((t.sec c).live ≠ (s.sec c).live → ∃ fed,
               Raises s t (.sectionState c (t.sec c).live (lineMax s c m) fed (s.locks c).length s.now)))) ∧
     (∀ frame : List Byte, frame.length = 56 → frame.head? = some 0x5A → (∀ b ∈ frame.tail, b ≠ 0x5A) →
       crc16 ((frame.drop 1).take 53) ≠ checkAt frame 54 → NothingToDo (.scanReceived frame) s) ∧
     (∀ frame : List Byte, (∀ b ∈ frame, b ≠ 0x5A) → NothingToDo (.scanReceived frame) s)) ∧
  (∀ s : State, s.powered = true →
     exec .scanByteTimeout s = .next { s with scp := { s.scp with rx := [] }, lnk := s.lnk.begin } ∧
     (reached s.now s.scp.overdueAt = false → NothingToDo .overdueWaitExpiry s) ∧
     (reached s.now s.scp.overdueAt = true → s.scp.blind = true → exec .overdueWaitExpiry s =
       .next { s with scp := { s.scp with validRun := 0, overdueAt := later s.now 2 }, lnk := s.lnk.begin }) ∧
     (reached s.now s.scp.overdueAt = true → s.scp.blind = false →
       ∃ t m, exec .overdueWaitExpiry s = .next t ∧ KeptBut measuredParts s t ∧ t.scp.last = s.scp.last ∧
         t.scp.heldRun = s.scp.heldRun + 1 ∧ t.scp.overdueAt = later s.now 2 ∧ t.scp.latest = some m ∧
         m.held = true ∧ m.blind = false ∧ m.time = s.now ∧ m.current = s.scp.last.current ∧ m.line = s.scp.last.line ∧
         (t.scp.blind = true ↔ s.scp.heldRun = 3) ∧
         (∀ c, (t.sec c).voltage = (s.sec c).voltage ∧ (t.sec c).live = (s.sec c).live ∧
           (t.sec c).liveCount = (s.sec c).liveCount) ∧
         (s.scp.heldRun = 3 → t.scp.blindSince = s.now ∧ t.scp.validRun = 0 ∧
           Raises s t (.blindEntered (s.scp.last.seq.map fun q => (s.scp.lastTime, q)) s.now)))) ∧
  (∀ (s : State) (m : Measurement) (c : SectionNo),
     (s.topo.enabledFeeders c = [] ∨ (m.blind = false ∧ m.held = true) → State.sectionStep m s c = s) ∧
     (s.topo.enabledFeeders c ≠ [] → m.blind = true →
       State.sectionStep m s c = s.setSec c { s.sec c with liveCount := 0, deadCount := 0, backfeedCount := 0 }) ∧
     ∀ (t : State) (v : Nat) (live rises falls backfed enters : Bool) (gates : List GateNo),
       s.topo.enabledFeeders c ≠ [] → m.blind = false → m.held = false → t = State.sectionStep m s c → v = lineMax s c m →
       live = energyAfter (s.sectionSet c) (s.sec c) v → rises = (live && !(s.sec c).live) → falls = (!live && (s.sec c).live) →
       backfed = ((s.sec c).backfeed && !falls) →
       enters = (live && !backfed && decide ((t.sec c).backfeedCount = 10)) →
       gates = ((s.topo.breakGates c).filter fun g => decide ((s.gate g).state ≠ .armed) &&
         (s.topo.otherSide g c).any fun d => (s.sec d).live) →
       Moves [.sections, .vehicles] s t ∧ (∀ d, d ≠ c → t.sec d = s.sec d) ∧
       (t.sec c).voltage = v ∧ (t.sec c).live = live ∧ (t.sec c).liveCount = liveAfter (s.sectionSet c) (s.sec c) v ∧
       (t.sec c).deadCount = deadAfter (s.sectionSet c) (s.sec c) v ∧ (t.sec c).fed = (s.sec c).fed ∧
       (t.sec c).backfeedCount = (if (s.sectionSet c).uLive ≤ v ∧ (s.sec c).fed = false ∧
           ∀ f ∈ s.topo.enabledFeeders c, (s.breaker f).test = .idle ∧ (s.breaker f).state ≠ .closing ∧
             (s.breaker f).state ≠ .opening ∧ (s.breaker f).state ≠ .stuck
         then min 10 ((s.sec c).backfeedCount + 1) else 0) ∧
       (t.sec c).backfeed = (backfed || enters) ∧
       (t.sec c).supplyLost = (((s.sec c).supplyLost && !rises) || ((s.sec c).fed && decide ((t.sec c).deadCount = 10))) ∧
       (enters = false → t.vtr = s.vtr ∧ t.lnk = s.lnk.says s.now (
         (if rises = true ∨ falls = true then [.sectionState c live v (s.sec c).fed (s.locks c).length m.time] else []) ++
         (if rises = true ∧ (s.sec c).supplyLost = true then [.supplyLostCleared true] else []) ++
         (if falls = true ∧ (s.sec c).backfeed = true then [.backfeedCleared c s.now false] else []) ++
         (if (s.sec c).fed = true ∧ (t.sec c).deadCount = 10 ∧ (s.sec c).supplyLost = false then
           [.supplyLostEntered c m.time v ((s.topo.enabledFeeders c).filter fun f => decide ((s.breaker f).state = .closed))]
         else []))) ∧
       (enters = true →
         t.vtr = (gates.foldl (fun u g => match u.holder g with
           | none => u
           | some n => u.applyFault n (.bridging g)) s).vtr ∧
         ∃ before after bridges, t.lnk = s.lnk.says s.now
             (before ++ .backfeedEntered c m.time v gates.length bridges gates.isEmpty :: after) ∧
           bridges.map (·.gate) = (gates.filter fun g => (s.topo.otherSide g c).isSome).take 8)) ∧
  (∀ (s : State) (f : FeederNo) (b : Breaker),
     (s.topo.feederSection f = none → s.putBreaker f b = s.setBreaker f b) ∧
     ∀ c fed zeroed, s.topo.feederSection f = some c →
       fed = ((s.topo.enabledFeeders c).any fun g => decide (((s.setBreaker f b).breaker g).state = .closed)) →
       zeroed = (if b.test ≠ .idle ∨ b.state = .closing ∨ b.state = .opening ∨ b.state = .stuck
         then { s.sec c with backfeedCount := 0 } else s.sec c) →
       s.putBreaker f b = { s.setBreaker f b with
         sem := s.sem.set c (
           if fed = (s.sec c).fed then zeroed
           else if fed = true then
             { zeroed with fed := true, deadCount := 0, backfeedCount := 0, supplyLost := false, backfeed := false }
           else { zeroed with fed := false, supplyLost := false })
         lnk := s.lnk.says s.now (
           (if fed ≠ (s.sec c).fed ∧ (s.sec c).supplyLost = true then [.supplyLostCleared false] else []) ++
           (if fed = true ∧ (s.sec c).fed = false ∧ (s.sec c).backfeed = true then [.backfeedCleared c s.now true] else [])) })

/-! ## Feeder protection -/

/-- R40: on every protection step of an enabled feeder whose measurement does not carry the BLIND mark, whatever its kind and the
breaker's state, H takes H plus q squared less q_c squared, clamped; with the BLIND mark H is left as it is. -/
def Obligations.ThermalContentSteps : Prop :=
  ∀ (s : State) (m : Measurement) (f : FeederNo), (s.topo.feeders[f]).enabled = true →
    (m.blind = true → ((s.stepRecords m).protection f).heat = (s.protection f).heat) ∧
    (m.blind = false → ∀ q qc : Nat, q = m.current[f].amps.natAbs / 16 → qc = (s.feederSet f).iCont / 16 →
      (((s.stepRecords m).protection f).heat : Int) =
        max 0 (min 2147483647 (((s.protection f).heat : Int) + (q : Int) ^ 2 - (qc : Int) ^ 2)))

/-- R29, R32–R36, R38–R40, R45, R46: what the records of a feeder do on one step. `x` is the detector current, the injected one
under injection and the feeder's own otherwise, and `rise` the rise over the oldest entry of the history. The shadow content takes
the step of H on the detector current.
R33, R36, R39, R41–R43, R44, R47: a step gives at most one real decision, that of the first condition met in the order INST, DELTA,
REVERSE, THERMAL, with the peak and the saturated mark of the run or window; every detector whose condition is met restarts its
record, H excepted. Under injection the real decision can be THERMAL only, on the feeder's own H, and the detectors' decision, by
the same order with the shadow content in the place of H, is a test decision that carries the shadow content; a shadow content
that has reached H_trip starts again from 0. -/
def Obligations.DetectorsStepAndDecide : Prop :=
  (∀ (set : FeederSet) (k : StepKind) (x own : Sample) (r t : Protection) (rise : Int), t = r.advance set k x own →
     rise = x.amps - r.history.h1 →
     t.inst = (match k with
       | .inSequence | .broken => if set.iMax ≤ x.amps.natAbs ∨ x.sat = true
           then ⟨r.inst.count + 1, max r.inst.peak x.amps.natAbs, r.inst.sat || x.sat⟩ else ⟨0, 0, false⟩
       | .held => r.inst
       | .blind => ⟨0, 0, false⟩) ∧
     t.reverse = (match k with
       | .inSequence | .broken => if x.amps ≤ -(set.iRevMax : Int)
           then ⟨r.reverse.count + 1, max r.reverse.peak x.amps.natAbs, r.reverse.sat || x.sat⟩ else ⟨0, 0, false⟩
       | .held => r.reverse
       | .blind => ⟨0, 0, false⟩) ∧
     t.mask = (if k = .blind then r.mask else r.mask - 1) ∧
     (r.shadow = none → t.shadow = none) ∧
     (∀ h q qc : Nat, r.shadow = some h → q = x.amps.natAbs / 16 → qc = set.iCont / 16 → ∃ h', t.shadow = some h' ∧
       (h' : Int) = if k = .blind then (h : Int) else max 0 (min 2147483647 ((h : Int) + (q : Int) ^ 2 - (qc : Int) ^ 2))) ∧
     (k ≠ .inSequence ∨ r.refill = true →
       t.history = ⟨x.amps, x.amps, x.amps, x.amps⟩ ∧ t.window.rising = false ∧ t.window.length = 0 ∧ t.window.overs = 0 ∧
       t.window.peak = 0) ∧
     (k = .inSequence → r.refill = false → t.history = ⟨r.history.h2, r.history.h3, r.history.h4, x.amps⟩ ∧
       (0 < r.mask → t.window = r.window) ∧
       (r.mask = 0 → r.window.rising = false → t.window =
         if rise < set.rStart then r.window
         else ⟨true, r.history.h1, 1, if (set.deltaTrip : Int) ≤ rise then 1 else 0, x.amps.natAbs, x.sat⟩) ∧
       (r.mask = 0 → r.window.rising = true →
         if rise < set.rHold ∨ set.tRiseMax ≤ r.window.length then
           t.window.rising = false ∧ t.window.length = 0 ∧ t.window.overs = 0 ∧ t.window.peak = 0
         else t.window = ⟨true, r.window.iStart, r.window.length + 1,
           if (set.deltaTrip : Int) ≤ x.amps - r.window.iStart then r.window.overs + 1 else 0,
           max r.window.peak x.amps.natAbs, r.window.sat || x.sat⟩))) ∧
  (∀ (set : FeederSet) (k : StepKind) (own : Sample) (injected : Option Sample) (x : Sample) (r a : Protection) (res : StepResult)
     (detected : Nat → Sample → Option Chosen), x = injected.getD own → a = r.advance set k x own →
     res = protectionStep set k own injected r →
     detected = (fun content y =>
       if (k = .inSequence ∨ k = .broken) ∧ 2 ≤ a.inst.count then some ⟨.inst, a.inst.peak, a.inst.sat, none⟩
       else if a.window.rising = true ∧ set.nDelta ≤ a.window.overs then
         some ⟨.delta, a.window.peak, a.window.sat, some (x.amps - a.window.iStart)⟩
       else if (k = .inSequence ∨ k = .broken) ∧ 3 ≤ a.reverse.count then
         some ⟨.reverse, a.reverse.peak, a.reverse.sat, none⟩
       else if k ≠ .blind ∧ set.hTrip ≤ content then some ⟨.thermal, y.amps.natAbs, y.sat, none⟩
       else none) →
     (injected = none → res.test = none ∧ res.real = detected a.heat own) ∧
     (∀ (j : Sample) (h : Nat), injected = some j → a.shadow = some h →
       res.real = (if k ≠ .blind ∧ set.hTrip ≤ a.heat then some ⟨.thermal, own.amps.natAbs, own.sat, none⟩ else none) ∧
       res.test = (detected h j).map fun c => (c, h)) ∧
     res.record.heat = a.heat ∧ res.record.history = a.history ∧ res.record.mask = a.mask ∧
     res.record.inst = (if (k = .inSequence ∨ k = .broken) ∧ 2 ≤ a.inst.count then ⟨0, 0, false⟩ else a.inst) ∧
     res.record.reverse = (if (k = .inSequence ∨ k = .broken) ∧ 3 ≤ a.reverse.count then ⟨0, 0, false⟩ else a.reverse) ∧
     (if a.window.rising = true ∧ set.nDelta ≤ a.window.overs
       then res.record.window.rising = false ∧ res.record.window.length = 0 ∧ res.record.window.overs = 0
       else res.record.window = a.window) ∧
     res.record.shadow = a.shadow.map fun h => if k ≠ .blind ∧ set.hTrip ≤ h then 0 else h)

/-! ## Breakers -/

/-- R54, R59, R75, R167: a real decision is disregarded unless the feeder is CLOSED or CLOSING. Otherwise the trip is taken: OPENING
with the decision's cause, the trip attributed where its cause is on the line, offered to the record, counted and reported; a
partner that is CLOSED or CLOSING is intertripped by a cause on the line. With a FAULTED vehicle among the candidates the
sequence is limited: at most one reclose.
R54, R56, R59, R63: with AUX already open the opening, of the feeder or of the intertripped partner, is confirmed at once and never
stands: the feeder is locked out with REVERSE, or in DEAD_TIME with attempts left, or locked out with NO_RECLOSE, as its cause, which
in a decision is never INTERTRIP, and its limit say; a LOCKED_OUT feeder takes along a partner that is in DEAD_TIME and follows it, whichever was locked out first.
R164, R165, R159: the attribution. The candidates are the records of the section's segments in order, then those that hold a break
gate of it. The suspect is the one whose last activity is latest, no older than T_attrib, then the one nearer its queue's head,
then the one in the lower segment; it is given SUSPECT. At most eight are reported, the suspect among them.
R165, R56: a vehicle that is FAULTED once the last trip of a measurement is attributed limits every trip of the measurement that it is
a candidate of, and a feeder that is then in DEAD_TIME has attempts left. That the marks are set when all are attributed, an open
confirmed at once being judged again, is DEDUCED (assumption log 37).
R31, R43, R54: an accepted scan, and a held one, on which the step of a CLOSED or CLOSING feeder gives a real decision, trips it,
whether AUX shows closed or already open. That it is attributed on the account as it stood before the measurement is the model's choice (assumption log 8). -/
def Obligations.TripsAreTaken : Prop :=
  (∀ (s t : State) (f : FeederNo) (d : Decision) (current : Vector Sample 12), t = s.handDecision f d current →
     ((s.breaker f).state ≠ .closed → (s.breaker f).state ≠ .closing → t = s) ∧
     ((s.breaker f).state = .closed ∨ (s.breaker f).state = .closing → ∃ (limited : Bool) (limit : Nat),
       limit = (if limited = true then min (s.feederSet f).nReclose 1 else (s.feederSet f).nReclose) ∧
       t.tripCount f = min 255 (s.tripCount f + 1) ∧
       (t.vtr = match s.topo.feederSection f, decide (d.cause = .inst ∨ d.cause = .delta ∨ d.cause = .reverse) with
         | some c, true => (s.attribute f c d.time).2.vtr
         | _, _ => s.vtr) ∧
       (∃ r replaced before after, r.cause = d.cause ∧ r.time = d.time ∧ r.peak = some d.peak ∧ r.sat = d.sat ∧
         r.delta = d.delta ∧ r.heat = d.heat ∧ r.attempt = (s.breaker f).attempts ∧ r.candidates.length ≤ 8 ∧
         (match s.topo.feederSection f, decide (d.cause = .inst ∨ d.cause = .delta ∨ d.cause = .reverse) with
           | some c, true => r.candidates = (s.attribute f c d.time).1.candidates ∧ r.total = (s.attribute f c d.time).1.total ∧
               r.suspect = (s.attribute f c d.time).1.suspect ∧
               limited = ((s.breaker f).limited || (s.attribute f c d.time).1.faultedPresent)
           | _, _ => r.candidates = [] ∧ r.total = 0 ∧ r.suspect = none ∧ limited = (s.breaker f).limited) ∧
         (replaced = true ↔ ∀ held, s.trip f = some held → held.cause.severity < d.cause.severity) ∧
         t.trip f = (if replaced = true then some r else s.trip f) ∧
         t.lnk = s.lnk.says s.now (before ++ .trip f r replaced :: after)) ∧
       (s.aux f = true →
         (t.breaker f).state = .opening ∧ (t.breaker f).cause = .trip d.cause ∧ (t.breaker f).closeOut = false ∧
         (t.breaker f).openTimer = some (later s.now (s.feederSet f).tOpenConf) ∧ (t.breaker f).reclaim = none ∧
         (t.breaker f).inSequence = true ∧ (t.breaker f).attempts = (s.breaker f).attempts ∧ (t.breaker f).limited = limited ∧
         t.effectiveLimit f = limit) ∧
       (s.aux f = false → d.cause ≠ .intertrip → OpensAtOnce s t f d.cause limit (LeadLocksOut s f d.cause) ∧
         ((t.breaker f).state = .deadTime → (t.breaker f).limited = limited ∧ t.effectiveLimit f = limit) ∧
         ∀ g, s.topo.partner f = some g → (t.breaker f).state = .lockedOut → (s.breaker g).state = .deadTime →
           s.topo.leadOf g = some f ∨ (s.breaker g).follows = true →
           t.breaker g = .rest .lockedOut (s.breaker g).judged ∧ t.lockout g = some .partner) ∧
       (∀ g, s.topo.partner f = some g → d.cause = .inst ∨ d.cause = .delta ∨ d.cause = .reverse →
         (s.breaker g).state = .closed ∨ (s.breaker g).state = .closing →
         t.tripCount g = min 255 (s.tripCount g + 1) ∧
         (s.aux g = true →
           (t.breaker g).state = .opening ∧ (t.breaker g).cause = .trip .intertrip ∧ (t.breaker g).follows = true) ∧
         (s.aux g = false →
           OpensAtOnce s t g .intertrip (s.effectiveLimit g) (∃ h ∈ s.topo.partner g, (t.breaker h).state = .lockedOut) ∧
           ((t.breaker g).state = .deadTime → (t.breaker g).follows = true))))) ∧
  (∀ (s u : State) (f : FeederNo) (c : SectionNo) (time : Time) (a : Attribution) (standing l : List SlotNo)
     (ages : SlotNo → Vehicle → Prop), s.attribute f c time = (a, u) →
     standing = (s.topo.segmentsOf c).flatMap s.queue →
     l = standing ++ ((s.topo.breakGates c).filterMap s.holder).filter (fun n => decide (n ∉ standing)) →
     ages = (fun n v => n ∈ l ∧ s.vehicle n = some v ∧ age time v.lastActivity ≤ s.sst.working.zone.tAttrib) →
     a.total = l.length ∧
     a.candidates = ((match a.suspect with
       | none => l.take 8
       | some n => if n ∈ l.take 8 then l.take 8 else l.take 7 ++ [n]).map fun n => ⟨n, (s.vehicle n).bind fun v => v.fleet⟩) ∧
     u = (match a.suspect with
       | none => s
       | some n => s.applyFault n (.suspect f)) ∧
     (a.faultedPresent = true ↔ ∃ n ∈ l, ∃ v, u.vehicle n = some v ∧ v.flags.faulted = true) ∧
     (a.suspect = none ↔ ∀ n v, ¬ages n v) ∧
     ∀ n, a.suspect = some n → ∃ v, ages n v ∧ ∀ m w, ages m w →
       age time v.lastActivity < age time w.lastActivity ∨ (age time v.lastActivity = age time w.lastActivity ∧
         ((s.queue v.segment).idxOf n < (s.queue w.segment).idxOf m ∨
           ((s.queue v.segment).idxOf n = (s.queue w.segment).idxOf m ∧ v.segment ≤ w.segment)))) ∧
  (∀ (s t : State) (m : Measurement) (f : FeederNo) (sec : SectionNo) (c : Chosen) (standing l : List SlotNo),
     t = s.protectionSteps m → s.enabled f = true → (s.breaker f).state = .closed ∨ (s.breaker f).state = .closing →
     (s.stepOf m f).real = some c → c.cause = .inst ∨ c.cause = .delta ∨ c.cause = .reverse → s.topo.feederSection f = some sec →
     (t.breaker f).cause = .trip c.cause → standing = (s.topo.segmentsOf sec).flatMap s.queue →
     l = standing ++ ((s.topo.breakGates sec).filterMap s.holder).filter (fun n => decide (n ∉ standing)) →
     ((t.breaker f).limited = true ↔ (s.breaker f).limited = true ∨ ∃ n ∈ l, ∃ v, t.vehicle n = some v ∧ v.flags.faulted = true) ∧
     ((t.breaker f).state = .deadTime → (t.breaker f).attempts < t.effectiveLimit f)) ∧
  (∀ s : State, s.powered = true →
     (∀ frame : List Byte, s.scp.rx = [] → frame.length = 56 → frame.head? = some 0x5A →
       crc16 ((frame.drop 1).take 53) = checkAt frame 54 →
       ∃ t m, exec (.scanReceived frame) s = .next t ∧ t.scp.latest = some m ∧ m.held = false ∧
         ∀ f c, TripsOn s m f c → TripTaken s t m f c) ∧
     (reached s.now s.scp.overdueAt = true → s.scp.blind = false →
       ∃ t m, exec .overdueWaitExpiry s = .next t ∧ t.scp.latest = some m ∧ m.held = true ∧
         ∀ f c, TripsOn s m f c → TripTaken s t m f c))

/-- R66: the 16th measurement of the averaging phase judges a line test: G from the sums, G_f from G and the vehicles' correction, the
outcome from the average busbar voltage and G_f. TEST is released, the judgement is kept and reported, and a test that does not
pass never ends in a close. -/
def Obligations.LineTestIsJudged : Prop :=
  (∀ (set : SectionSet) (n sumI sumU sumBus : Nat) (j : Judged), j = State.judgeSums set n sumI sumU sumBus →
    j.vehicles = n ∧ j.sumI = sumI ∧ j.sumU = sumU ∧ j.busAverage = sumBus / 16 ∧ j.gFault ≤ j.g ∧
    (sumU = 0 → j.g = 65535) ∧ (sumU ≠ 0 → j.g = min 65535 (1000 * sumI / sumU)) ∧
    j.correction = n * set.gVeh ∧ (j.correction ≤ j.g → j.gFault + j.correction = j.g) ∧ (j.g < j.correction → j.gFault = 0) ∧
    j.outcome = (if j.busAverage < set.uBusMin then .inconclusive else if set.gFault ≤ j.gFault then .fail else .pass)) ∧
  ∀ (s : State) (f : FeederNo) (j : Judged),
    (∀ (m : Measurement) (c : SectionNo) (n i u bus : Nat), s.topo.feederSection f = some c →
      (s.breaker f).test = .average n 15 i u bus → m.blind = false → m.held = false →
      State.testStep m s f = s.takeOutcome f (State.judgeSums (s.sectionSet c) n (i + m.current[f].amps.toNat) (u + m.line[f])
        (bus + match (s.topo.feeders[f]).group with | .a => m.busA | .b => m.busB))) ∧
    ((s.takeOutcome f j).breaker f).test = .idle ∧ ((s.takeOutcome f j).breaker f).judged = some j ∧
    (s.takeOutcome f j).testLine f = false ∧ (s.feederReport f).judged = (s.breaker f).judged ∧
    (j.outcome ≠ .pass → ((s.takeOutcome f j).breaker f).state ≠ .closing ∧ (s.takeOutcome f j).closeLine f = false)

/-- R64, R65, R68: how a running test takes a measurement. The settle phase counts the valid measurements without the BLIND mark, to
N_settle; the next one begins the averaging phase, whose vehicle count is taken then, and is its first. A HELD measurement leaves
the settle phase as it is and abandons a test that averages. That the rule is followed where its worked example
counts otherwise is assumption log 18.
R68, R62, R72: an abandoned automatic test returns its feeder to DEAD_TIME, expired, with no attempt counted; an abandoned host
test goes to OPEN with a TEST_FAIL of outcome ABANDONED, its values as assumption log 34 gives. The entry to BLIND abandons every
running test.
R60, R62, R67: after an automatic test that passed the feeder enters CLOSING, the attempt counted, unless a hold other than PARTNER
applies, any of the seven, and then it returns to DEAD_TIME, expired, with no attempt counted; with READY absent its ready wait
starts, or at T_ready 0 it is locked out. After FAIL or INCONCLUSIVE the attempt is counted and reported; below the effective
limit a new dead time runs, otherwise the feeder is locked out. An intertripped feeder that comes to DEAD_TIME while its partner
is LOCKED_OUT is locked out with PARTNER (R59). That a pass is not held against the effective limit is the model's choice
(assumption log 35).
R72: a host test that passed enters CLOSING, no attempt counted, when the mode is RUN, the section holds no lock, H is at or below
H_reclose and READY is present, and otherwise goes to OPEN as ABANDONED; after FAIL or INCONCLUSIVE it goes to OPEN with that
outcome, not to LOCKED_OUT. -/
def Obligations.TestOutcomesAct : Prop :=
  (∀ (s : State) (m : Measurement) (f : FeederNo) (c : SectionNo) (n busbar : Nat), s.topo.feederSection f = some c →
    n = ((s.topo.segmentsOf c).map fun g => (s.queue g).length + s.untracked g).sum +
      ((s.topo.breakGates c).filter fun g => decide ((s.gate g).state ≠ .armed ∧
        ∀ a ∈ (s.topo.gates[g]).src, (s.topo.segments[a]) ≠ c)).length →
    busbar = (match (s.topo.feeders[f]).group with | .a => m.busA | .b => m.busB) →
    (∀ k, (s.breaker f).test = .settle k → State.testStep m s f =
      (if m.held = true ∨ m.blind = true then s
      else if k < (s.feederSet f).nSettle then s.setBreaker f { s.breaker f with test := .settle (k + 1) }
      else s.setBreaker f { s.breaker f with test := .average n 1 (m.current[f].amps.toNat) (m.line[f]) busbar })) ∧
    (∀ taken k i u bus, (s.breaker f).test = .average taken k i u bus → m.blind = false →
      (m.held = false → k < 15 → State.testStep m s f = s.setBreaker f { s.breaker f with
        test := .average taken (k + 1) (i + m.current[f].amps.toNat) (u + m.line[f]) (bus + busbar) }) ∧
      (m.held = true → State.testStep m s f = s.abandonTest f))) ∧
  (∀ (s t : State) (f : FeederNo), t = s.abandonTest f → (s.breaker f).state = .testing →
    if (s.breaker f).automatic = true then Returns s t f (s.breaker f).judged
    else t.breaker f = .rest .opened (s.breaker f).judged ∧ t.lockout f = s.lockout f ∧
      ∃ before after, t.lnk = s.lnk.says s.now (before ++ .testFail f .abandoned none :: after)) ∧
  (∀ s : State, s.powered = true → reached s.now s.scp.overdueAt = true → s.scp.blind = false → s.scp.heldRun = 3 →
    ∃ t, exec .overdueWaitExpiry s = .next t ∧ ∀ f, (s.breaker f).state = .testing → (s.breaker f).test ≠ .idle →
      ((s.breaker f).automatic = false →
        t.breaker f = .rest .opened (s.breaker f).judged ∧ Raises s t (.testFail f .abandoned none)) ∧
      ((s.breaker f).automatic = true → (s.breaker f).follows = false → s.topo.leadOf f = none →
        Returns s t f (s.breaker f).judged)) ∧
  (∀ (s t : State) (f : FeederNo) (j : Judged), t = s.takeOutcome f j → (s.breaker f).state = .testing →
    (s.breaker f).automatic = true →
    (j.outcome = .pass → s.holdsButPartner f = [] →
      (t.breaker f).state = .closing ∧ (t.breaker f).closeOut = true ∧ (t.breaker f).attempts = (s.breaker f).attempts + 1) ∧
    (j.outcome = .pass → s.holdsButPartner f ≠ [] →
      (∀ c ∈ s.topo.feederSection f, ((s.sec c).fed = true ↔ ∃ g ∈ s.topo.enabledFeeders c, (s.breaker g).state = .closed)) →
      Returns s t f (some j)) ∧
    (j.outcome = .fail ∨ j.outcome = .inconclusive →
      (∃ before after, t.lnk = s.lnk.says s.now (before ++ .testFail f j.outcome (some j) :: after)) ∧
      if s.effectiveLimit f ≤ (s.breaker f).attempts + 1 then
        t.breaker f = .rest .lockedOut (some j) ∧ t.lockout f = some (if j.outcome = .fail then .testFail else .busLow)
      else
        (FollowsLocked s f → t.breaker f = .rest .lockedOut (some j) ∧ t.lockout f = some .partner) ∧
        (¬FollowsLocked s f → (t.breaker f).state = .deadTime ∧ (t.breaker f).expired = false ∧
          (t.breaker f).attempts = (s.breaker f).attempts + 1 ∧ t.lockout f = s.lockout f ∧
          (t.breaker f).deadTimer = some (later s.now (s.feederSet f).tDead)))) ∧
  (∀ (s t : State) (f : FeederNo) (j : Judged), t = s.takeOutcome f j → (s.breaker f).state = .testing →
    (s.breaker f).automatic = false → t.lockout f = s.lockout f ∧
    (j.outcome = .pass →
      if s.sst.mode = .run ∧ (∀ c ∈ s.topo.feederSection f, s.locks c = []) ∧
          (s.protection f).heat ≤ (s.feederSet f).hReclose ∧ s.ready f = true then
        (t.breaker f).state = .closing ∧ (t.breaker f).automatic = false ∧ (t.breaker f).closeOut = true ∧
        (t.breaker f).attempts = (s.breaker f).attempts ∧ (t.breaker f).test = .idle ∧
        (t.breaker f).closeTimer = some (later s.now (s.feederSet f).tCloseConf)
      else t.breaker f = .rest .opened (some j) ∧
        ∃ before after, t.lnk = s.lnk.says s.now (before ++ .testFail f .abandoned (some j) :: after)) ∧
    (j.outcome = .fail ∨ j.outcome = .inconclusive → t.breaker f = .rest .opened (some j) ∧
      ∃ before after, t.lnk = s.lnk.says s.now (before ++ .testFail f j.outcome (some j) :: after)))

/-- R55, R56: AUX that shows open confirms an opening, which goes on by its cause, and in CLOSED is an external trip, which goes on as
a confirmed one; in any other state, and for a disabled feeder, it changes nothing but the input. R59: an intertripped feeder whose
partner is LOCKED_OUT is locked out with PARTNER in place of its dead time.
R59, R61, R63: a feeder's entry to LOCKED_OUT retains the lockout and takes a partner in DEAD_TIME that follows it along with PARTNER,
expired or not; no other feeder is locked out by it. -/
def Obligations.AuxOpens : Prop :=
  (∀ (s t : State) (f : FeederNo) (why : LockoutCause), t = s.lockOut f why →
    t.breaker f = .rest .lockedOut (s.breaker f).judged ∧ t.lockout f = some why ∧
    (∀ g, g ≠ f → if g ∈ s.topo.partner f ∧ (s.breaker g).state = .deadTime ∧ (s.topo.leadOf g = some f ∨ (s.breaker g).follows = true)
      then t.breaker g = .rest .lockedOut (s.breaker g).judged ∧ t.lockout g = some .partner
      else t.breaker g = s.breaker g ∧ t.lockout g = s.lockout g)) ∧
  ∀ (s : State) (f : FeederNo), s.powered = true →
    (s.enabled f = false ∨ ((s.breaker f).state ≠ .closed ∧ (s.breaker f).state ≠ .opening) →
      exec (.auxOpened f) s = .next { s with
        pins := { s.pins with aux := s.pins.aux.set f false }, lnk := s.lnk.begin }) ∧
    (s.enabled f = true → (s.breaker f).state = .opening → ∃ t, exec (.auxOpened f) s = .next t ∧ Settles [.pins] [f] [] s t ∧
      t.pins = { s.pins with aux := s.pins.aux.set f false } ∧ ((t.breaker f).state = .lockedOut → TakesAlong s t f) ∧
      ((s.breaker f).cause = .hostOpen → t.breaker f = .rest .opened (s.breaker f).judged ∧ t.lockout f = s.lockout f) ∧
      ((s.breaker f).cause = .trip .reverse → t.breaker f = .rest .lockedOut (s.breaker f).judged ∧ t.lockout f = some .reverse ∧
        Raises s t (.lockout f .reverse (s.breaker f).attempts)) ∧
      (∀ c, (s.breaker f).cause = .trip c → c ≠ .reverse →
        if (s.breaker f).attempts < s.effectiveLimit f then
          (FollowsLocked s f → t.breaker f = .rest .lockedOut (s.breaker f).judged ∧ t.lockout f = some .partner ∧
            Raises s t (.lockout f .partner (s.breaker f).attempts)) ∧
          (¬FollowsLocked s f → t.lockout f = s.lockout f ∧ (t.breaker f).state = .deadTime ∧
            (t.breaker f).expired = false ∧ (t.breaker f).attempts = (s.breaker f).attempts ∧ (t.breaker f).openTimer = none ∧
            (t.breaker f).deadTimer = some (later s.now (s.feederSet f).tDead))
        else t.breaker f = .rest .lockedOut (s.breaker f).judged ∧ t.lockout f = some .noReclose ∧
          Raises s t (.lockout f .noReclose (s.breaker f).attempts))) ∧
    (s.enabled f = true → (s.breaker f).state = .closed → ∃ t r replaced, exec (.auxOpened f) s = .next t ∧
      Settles [.pins, .trips] [f] [] s t ∧ t.pins = { s.pins with aux := s.pins.aux.set f false } ∧
      r = ({ cause := .external, time := s.now, peak := some (s.latestCurrent f).amps.natAbs, sat := (s.latestCurrent f).sat
             delta := none, heat := (s.protection f).heat, attempt := (s.breaker f).attempts
             candidates := [], total := 0, suspect := none } : TripRecord) ∧
      (replaced = true ↔ ∀ held, s.trip f = some held → held.cause = .intertrip) ∧
      t.trip f = (if replaced = true then some r else s.trip f) ∧ t.tripCount f = min 255 (s.tripCount f + 1) ∧
      (∀ g, g ≠ f → t.trip g = s.trip g ∧ t.tripCount g = s.tripCount g) ∧ Raises s t (.trip f r replaced) ∧
      ((t.breaker f).state = .lockedOut → TakesAlong s t f) ∧
      if (s.breaker f).attempts < s.effectiveLimit f then
        (t.breaker f).state = .deadTime ∧ (t.breaker f).expired = false ∧ (t.breaker f).inSequence = true ∧
        (t.breaker f).attempts = (s.breaker f).attempts ∧ (t.breaker f).deadTimer = some (later s.now (s.feederSet f).tDead)
      else t.breaker f = .rest .lockedOut (s.breaker f).judged ∧ t.lockout f = some .noReclose)

/-- R27, R37, R69, R71: AUX that shows closed ends an injection; in CLOSING it confirms the close, which an automatic close reports,
starting the reclaim timer; in OPEN, DEAD_TIME, TESTING and LOCKED_OUT it is an uncommanded close, which clears the lockout and is
reported. Both set the inrush mask. The breaker of a CLOSED, OPENING or STUCK feeder stays as it is.
R68, R67, R72: the entry to CLOSED ends a test of the partner, which makes a live close under the holds of R67, the attempt
counted, or, in a host test, under the conditions of R72; that every section list holds at most two feeders (R2), which this rests
on, every step keeps (ListsPaired). A partner in any other state stays as it is, the end of the event aside. -/
def Obligations.AuxCloses : Prop :=
  ∀ (s : State) (f : FeederNo), s.powered = true →
    (s.enabled f = false → exec (.auxClosed f) s = .next { s with
      pins := { s.pins with aux := s.pins.aux.set f true }, lnk := s.lnk.begin }) ∧
    (s.enabled f = true → ∃ t, exec (.auxClosed f) s = .next t ∧
      Settles [.pins, .scan, .protection] (f :: (s.topo.partner f).toList) [] s t ∧
      t.pins = { s.pins with aux := s.pins.aux.set f true } ∧ (t.injection f).pattern = .none ∧
      (∀ g, g ≠ f → t.injection g = s.injection g ∧ t.protection g = s.protection g) ∧
      (∀ g ∈ s.topo.partner f,
        ((s.breaker g).state ≠ .testing ∨ (s.breaker f).state = .closed ∨ (s.breaker f).state = .opening ∨ (s.breaker f).state = .stuck →
          (s.breaker g).state ≠ .deadTime → (s.breaker g).state ≠ .closing →
          t.breaker g = s.breaker g ∧ t.lockout g = s.lockout g) ∧
        ((s.breaker g).state = .testing → (s.breaker f).state ≠ .closed → (s.breaker f).state ≠ .opening →
          (s.breaker f).state ≠ .stuck → TopologyValid s → s.topo.Paired → FedFlagsTrue s → LiveCloses s t g)) ∧
      match (s.breaker f).state with
      | .closing => (t.protection f).mask = (s.feederSet f).nMask ∧ t.lockout f = s.lockout f ∧
          (if (s.breaker f).automatic = true then
            t.breaker f = { s.breaker f with
              state := .closed, automatic := false, closeOut := false, closeTimer := none
              reclaim := some (later s.now (s.feederSet f).tReclaim) } ∧
            Raises s t (.reclosed f (s.breaker f).attempts)
          else t.breaker f = .rest .closed (s.breaker f).judged)
      | .opened | .deadTime | .testing | .lockedOut =>
          t.breaker f = .rest .closed (s.breaker f).judged ∧ t.lockout f = none ∧
          (t.protection f).mask = (s.feederSet f).nMask ∧ Raises s t (.uncommanded f (s.breaker f).state)
      | .closed | .opening | .stuck => t.breaker f = s.breaker f ∧ t.lockout f = s.lockout f)

/-- R57, R69, R70, R75: the open-confirmation timer that expires with AUX closed makes the feeder STUCK, latches its group's
INCOMER_TRIP and offers a trip of cause STUCK, not counted; the close-confirmation timer that expires with AUX open locks it out
with NO_CLOSE, and with it a partner in DEAD_TIME that follows it (R59, R63); the reclaim timer that expires in CLOSED ends the
sequence. Otherwise these expiries do nothing. That the attempt number of the STUCK trip is the count before, and that after a
host open it has no peak, is the model's choice (assumption log 21). -/
def Obligations.BreakerTimersExpire : Prop :=
  ∀ (s : State) (f : FeederNo), s.powered = true →
    (if s.enabled f = true ∧ (s.breaker f).state = .opening ∧ isDue s.now (s.breaker f).openTimer = true ∧ s.aux f = true then
      ∃ t, exec (.openConfirmExpiry f) s = .next t ∧ Settles [.latches, .trips] [f] [] s t ∧
        t.breaker f = .rest .stuck (s.breaker f).judged ∧ t.tripLine f = true ∧
        t.bsq.latchA = (s.bsq.latchA || decide ((s.topo.feeders[f]).group = .a)) ∧
        t.bsq.latchB = (s.bsq.latchB || decide ((s.topo.feeders[f]).group = .b)) ∧
        Raises s t (.breakerFail f (s.topo.feeders[f]).group (s.breaker f).cause) ∧
        t.ret.tripCounts = s.ret.tripCounts ∧ (∀ g, g ≠ f → t.trip g = s.trip g) ∧
        ∃ r, t.trip f = some r ∧ r.cause = .stuck ∧ ((∀ held, s.trip f = some held → held.cause ≠ .stuck) → r.time = s.now ∧
          r.heat = (s.protection f).heat ∧ r.attempt = (s.breaker f).attempts ∧
          ((s.breaker f).cause = .hostOpen → r.peak = none ∧ r.candidates = [] ∧ r.suspect = none) ∧
          (∀ c b, (s.breaker f).cause = .trip c → (s.breaker f).begun = some b →
            r.peak = b.peak ∧ r.sat = b.sat ∧ r.delta = b.delta ∧ r.candidates = b.candidates ∧ r.suspect = b.suspect))
    else NothingToDo (.openConfirmExpiry f) s) ∧
    (if s.enabled f = true ∧ (s.breaker f).state = .closing ∧ isDue s.now (s.breaker f).closeTimer = true ∧ s.aux f = false then
      ∃ t, exec (.closeConfirmExpiry f) s = .next t ∧ Settles [] [f] [] s t ∧
        t.breaker f = .rest .lockedOut (s.breaker f).judged ∧ t.lockout f = some .noClose ∧ TakesAlong s t f ∧
        Raises s t (.lockout f .noClose (s.breaker f).attempts)
    else NothingToDo (.closeConfirmExpiry f) s) ∧
    (if s.enabled f = true ∧ (s.breaker f).state = .closed ∧ isDue s.now (s.breaker f).reclaim = true then
      exec (.reclaimTimerExpiry f) s = .next { s with
        bsq := { s.bsq with breakers := (s.bsq.breakers.set f (.rest .closed (s.breaker f).judged)) }, lnk := s.lnk.begin }
    else NothingToDo (.reclaimTimerExpiry f) s)

/-- R62, R63: the holds in force, in the order of the table. When the dead timer expires, or the last hold of an expired feeder is
lifted, the feeder goes on once no hold applies; under another hold it is expired and waits, and with its lead LOCKED_OUT it is
locked out with PARTNER whatever holds apply. With READY absent the ready wait runs, or at T_ready 0 the feeder is locked out with
NOT_READY, as it is when the ready wait runs out, and takes a partner in DEAD_TIME that follows it along (R59). That NOT_READY
comes before PARTNER is the model's choice (assumption log 14), and so is that the feeder goes on without its attempts being held
against the effective limit again (assumption log 35).
R62: READY that goes absent from an expired feeder in DEAD_TIME starts the ready wait, or at T_ready 0 locks the feeder out; READY
that returns stops it. For a disabled feeder, or at a level READY already has, only the input is taken. -/
def Obligations.DeadTimeEnds : Prop :=
  (∀ (s : State) (f : FeederNo), s.powered = true →
     (∀ h, h ∈ s.holds f ↔ match h with
       | .mode => s.sst.mode ≠ .run
       | .blind => s.scp.blind = true
       | .thermal => (s.feederSet f).hReclose < (s.protection f).heat
       | .locked => ∃ c ∈ s.topo.feederSection f, s.locks c ≠ []
       | .backfeed => ∃ c ∈ s.topo.feederSection f, (s.sec c).backfeed = true
       | .bridge => ∃ c ∈ s.topo.feederSection f, ∃ g ∈ s.topo.breakGates c, (s.gate g).state ≠ .armed ∧
           ∃ d ∈ s.topo.otherSide g c, (s.sec d).live = true
       | .ready => s.ready f = false
       | .partner => ∃ lead ∈ s.topo.leadOf f, match (s.breaker lead).state with
           | .closed => ¬∃ c ∈ s.topo.feederSection f, (s.sec c).live = true
           | .closing | .opening | .deadTime | .testing => True
           | .opened | .stuck | .lockedOut => False) ∧
     (if s.enabled f = true ∧ (s.breaker f).state = .deadTime ∧ isDue s.now (s.breaker f).deadTimer = true then
       ∃ t, exec (.deadTimerExpiry f) s = .next t ∧ Settles [] [f] [] s t ∧
         (s.ready f = false → (s.feederSet f).tReady = 0 →
           t.breaker f = .rest .lockedOut (s.breaker f).judged ∧ t.lockout f = some .notReady ∧ TakesAlong s t f) ∧
         (s.ready f = false → (s.feederSet f).tReady ≠ 0 → LeadNotLocked s f →
           t.lockout f = s.lockout f ∧ (t.breaker f).state = .deadTime ∧ (t.breaker f).expired = true ∧
           (t.breaker f).deadTimer = none ∧ (t.breaker f).readyWait = some (later s.now (s.feederSet f).tReady)) ∧
         (s.ready f = true → s.holds f ≠ [] → LeadNotLocked s f → FedFlagsTrue s →
           t.lockout f = s.lockout f ∧ (t.breaker f).state = .deadTime ∧ (t.breaker f).expired = true ∧
           (t.breaker f).deadTimer = none ∧ (t.breaker f).readyWait = none ∧
           (t.breaker f).attempts = (s.breaker f).attempts) ∧
         (s.ready f = true ∨ (s.feederSet f).tReady ≠ 0 → (∃ lead ∈ s.topo.leadOf f, (s.breaker lead).state = .lockedOut) →
           t.breaker f = .rest .lockedOut (s.breaker f).judged ∧ t.lockout f = some .partner) ∧
         (s.holds f = [] → Resumes s t f)
     else NothingToDo (.deadTimerExpiry f) s) ∧
     (if s.enabled f = true ∧ (s.breaker f).state = .deadTime ∧ (s.breaker f).expired = true ∧ s.holds f = [] then
       ∃ t, exec (.deadTimeHoldsClear f) s = .next t ∧ Settles [] [f] [] s t ∧ Resumes s t f
     else NothingToDo (.deadTimeHoldsClear f) s) ∧
     (if s.enabled f = true ∧ (s.breaker f).state = .deadTime ∧ isDue s.now (s.breaker f).readyWait = true then
       ∃ t, exec (.readyWaitExpiry f) s = .next t ∧ Settles [] [f] [] s t ∧
         t.breaker f = .rest .lockedOut (s.breaker f).judged ∧ t.lockout f = some .notReady ∧ TakesAlong s t f ∧
         Raises s t (.lockout f .notReady (s.breaker f).attempts)
     else NothingToDo (.readyWaitExpiry f) s)) ∧
  (∀ (s : State) (f : FeederNo) (present : Bool), s.powered = true →
     (s.enabled f = false ∨ s.ready f = present → exec (.readyChange f present) s = .next { s with
       pins := { s.pins with ready := s.pins.ready.set f present }, lnk := s.lnk.begin }) ∧
     (s.enabled f = true → s.ready f ≠ present → ∃ t, exec (.readyChange f present) s = .next t ∧ Says s t [] ∧
       Settles [.pins] [f] [] s t ∧ t.pins = { s.pins with ready := s.pins.ready.set f present } ∧
       ((s.breaker f).state = .deadTime → (s.breaker f).expired = true → present = false →
         ((s.feederSet f).tReady = 0 → t.breaker f = .rest .lockedOut (s.breaker f).judged ∧ t.lockout f = some .notReady) ∧
         ((s.feederSet f).tReady ≠ 0 → LeadNotLocked s f → (t.breaker f).state = .deadTime ∧
           (t.breaker f).readyWait = some (later s.now (s.feederSet f).tReady))) ∧
       ((s.breaker f).state = .deadTime → (s.breaker f).expired = true → present = true → (t.breaker f).readyWait = none) ∧
       ((s.breaker f).state ≠ .deadTime → (s.breaker f).state ≠ .closing → t.breaker f = s.breaker f ∧ t.lockout f = s.lockout f)))

/-! ## What every step keeps -/

/-- R87: lock lists hold at most 4 holders, each 0–250, none twice, after every step.
R105, R106, R128, R129, R158, R180, R181, R187: the queues, lists and counts of the tracker, the points and the link keep their
bounds.
R2: no section list names more than two feeders, in the active topology, the working set, the stored set or a store's copy.
R10: the active topology passes every check after every step. Under such a topology every step keeps the account of vehicles
sound: a record stands in exactly one queue, that of its segment (R105), no fleet number stands in two records (R104), a fitted
point's zone queue holds the first entries of its approach's queue (R132); and every fed flag says whether an enabled feeder of
its section is CLOSED (R81). -/
def Obligations.BoundsAreKept : Prop :=
  (∀ s t : State, LocksLegal s → step s = .next t → LocksLegal t) ∧
  (∀ s t : State, step s = .next t →
     (LinkBounded s → LinkBounded t) ∧ (TrackingBounded s → TrackingBounded t) ∧ (ZonesBounded s → ZonesBounded t) ∧
     (SuspicionBounded s → SuspicionBounded t)) ∧
  (∀ s t : State, ListsPaired s → step s = .next t → ListsPaired t) ∧
  (∀ s t : State, TopologyValid s → step s = .next t →
     TopologyValid t ∧ (FedFlagsTrue s → FedFlagsTrue t) ∧
     (QueuesSound s → FleetsUnique s → ZonesLead s → QueuesSound t ∧ FleetsUnique t ∧ ZonesLead t))

/-- R69: no step leaves CLOSE asserted against the close guard. -/
def Obligations.CloseStaysGuarded : Prop := ∀ s t : State, CloseGuarded s → step s = .next t → CloseGuarded t

/-- R133, R138: no step leaves a drive energised over a head that holds the proceed-given mark, nor a mark behind the head. -/
def Obligations.DrivesStayGuarded : Prop := ∀ s t : State, DriveGuarded s → step s = .next t → DriveGuarded t

/-- R169, R172, R40: settings stay in range and under their floor caps, and with them H stays at or below 2,147,483,647. -/
def Obligations.SettingsStayInRange : Prop :=
  ∀ s t : State, step s = .next t →
    (FloorsUpheld s → FloorsUpheld t) ∧ (SettingsInRange s → HeatBounded s → SettingsInRange t ∧ HeatBounded t)

/-- R61, R64, R74, R76: a test runs only in TESTING, and an enabled feeder is LOCKED_OUT exactly while its lockout is retained, after
every step. -/
def Obligations.LockoutsStayRetained : Prop := ∀ s t : State, BreakersSound s → step s = .next t → BreakersSound t

/-- What every step keeps holds right after reset. The input lines, and so the factory state of the retained area at
State.reset, are the model's choice (assumption logs 2 and 3). -/
def Obligations.ResetIsSound : Prop :=
  LocksLegal .reset ∧ CloseGuarded .reset ∧ DriveGuarded .reset ∧ LinkBounded .reset ∧ TrackingBounded .reset ∧
  ZonesBounded .reset ∧ SuspicionBounded .reset ∧ FloorsUpheld .reset ∧ SettingsInRange .reset ∧ HeatBounded .reset ∧
  BreakersSound .reset ∧ AspectsShown .reset ∧ ListsPaired .reset ∧ TopologyValid .reset ∧ FedFlagsTrue .reset ∧ QueuesSound .reset ∧
  FleetsUnique .reset ∧ ZonesLead .reset
end

