-- ==== Sys2Proof/Laws/State.lean ====
section
/-! SUPPORT. The small lemmas of State: what each setter leaves in each field and under each accessor. A later proof cites these and
unfolds no record update. -/

namespace Sys2Proof.Machine.State

variable (s : State)


/-! ### setBreaker -/

@[simp] theorem setBreaker_now (f : FeederNo) (b : Breaker) : (s.setBreaker f b).now = s.now := rfl
@[simp] theorem setBreaker_powered (f : FeederNo) (b : Breaker) : (s.setBreaker f b).powered = s.powered := rfl
@[simp] theorem setBreaker_pins (f : FeederNo) (b : Breaker) : (s.setBreaker f b).pins = s.pins := rfl
@[simp] theorem setBreaker_lnk (f : FeederNo) (b : Breaker) : (s.setBreaker f b).lnk = s.lnk := rfl
@[simp] theorem setBreaker_sst (f : FeederNo) (b : Breaker) : (s.setBreaker f b).sst = s.sst := rfl
@[simp] theorem setBreaker_ret (f : FeederNo) (b : Breaker) : (s.setBreaker f b).ret = s.ret := rfl
@[simp] theorem setBreaker_scp (f : FeederNo) (b : Breaker) : (s.setBreaker f b).scp = s.scp := rfl
@[simp] theorem setBreaker_fpu (f : FeederNo) (b : Breaker) : (s.setBreaker f b).fpu = s.fpu := rfl
@[simp] theorem setBreaker_sem (f : FeederNo) (b : Breaker) : (s.setBreaker f b).sem = s.sem := rfl
@[simp] theorem setBreaker_gsc (f : FeederNo) (b : Breaker) : (s.setBreaker f b).gsc = s.gsc := rfl
@[simp] theorem setBreaker_vtr (f : FeederNo) (b : Breaker) : (s.setBreaker f b).vtr = s.vtr := rfl
@[simp] theorem setBreaker_ptc (f : FeederNo) (b : Breaker) : (s.setBreaker f b).ptc = s.ptc := rfl
@[simp] theorem setBreaker_pending (f : FeederNo) (b : Breaker) : (s.setBreaker f b).pending = s.pending := rfl
@[simp] theorem setBreaker_protection (f : FeederNo) (b : Breaker) (f0 : FeederNo) : (s.setBreaker f b).protection f0 = s.protection f0 := rfl
@[simp] theorem setBreaker_sec (f : FeederNo) (b : Breaker) (c0 : SectionNo) : (s.setBreaker f b).sec c0 = s.sec c0 := rfl
@[simp] theorem setBreaker_gate (f : FeederNo) (b : Breaker) (g0 : GateNo) : (s.setBreaker f b).gate g0 = s.gate g0 := rfl
@[simp] theorem setBreaker_point (f : FeederNo) (b : Breaker) (p0 : PointNo) : (s.setBreaker f b).point p0 = s.point p0 := rfl
@[simp] theorem setBreaker_vehicle (f : FeederNo) (b : Breaker) (n0 : SlotNo) : (s.setBreaker f b).vehicle n0 = s.vehicle n0 := rfl
@[simp] theorem setBreaker_queue (f : FeederNo) (b : Breaker) (a0 : SegmentNo) : (s.setBreaker f b).queue a0 = s.queue a0 := rfl
@[simp] theorem setBreaker_untracked (f : FeederNo) (b : Breaker) (a0 : SegmentNo) : (s.setBreaker f b).untracked a0 = s.untracked a0 := rfl
@[simp] theorem setBreaker_injection (f : FeederNo) (b : Breaker) (f0 : FeederNo) : (s.setBreaker f b).injection f0 = s.injection f0 := rfl
@[simp] theorem setBreaker_locks (f : FeederNo) (b : Breaker) (c0 : SectionNo) : (s.setBreaker f b).locks c0 = s.locks c0 := rfl
@[simp] theorem setBreaker_lockout (f : FeederNo) (b : Breaker) (f0 : FeederNo) : (s.setBreaker f b).lockout f0 = s.lockout f0 := rfl
@[simp] theorem setBreaker_trip (f : FeederNo) (b : Breaker) (f0 : FeederNo) : (s.setBreaker f b).trip f0 = s.trip f0 := rfl
@[simp] theorem setBreaker_tripCount (f : FeederNo) (b : Breaker) (f0 : FeederNo) : (s.setBreaker f b).tripCount f0 = s.tripCount f0 := rfl
@[simp] theorem setBreaker_topo (f : FeederNo) (b : Breaker) : (s.setBreaker f b).topo = s.topo := rfl
@[simp] theorem setBreaker_feederSet (f : FeederNo) (b : Breaker) (f0 : FeederNo) : (s.setBreaker f b).feederSet f0 = s.feederSet f0 := rfl
@[simp] theorem setBreaker_sectionSet (f : FeederNo) (b : Breaker) (c0 : SectionNo) : (s.setBreaker f b).sectionSet c0 = s.sectionSet c0 := rfl
@[simp] theorem setBreaker_gateSet (f : FeederNo) (b : Breaker) (g0 : GateNo) : (s.setBreaker f b).gateSet g0 = s.gateSet g0 := rfl
@[simp] theorem setBreaker_pointSet (f : FeederNo) (b : Breaker) (p0 : PointNo) : (s.setBreaker f b).pointSet p0 = s.pointSet p0 := rfl

/-! ### setProtection -/

@[simp] theorem setProtection_now (f : FeederNo) (r : Protection) : (s.setProtection f r).now = s.now := rfl
@[simp] theorem setProtection_powered (f : FeederNo) (r : Protection) : (s.setProtection f r).powered = s.powered := rfl
@[simp] theorem setProtection_pins (f : FeederNo) (r : Protection) : (s.setProtection f r).pins = s.pins := rfl
@[simp] theorem setProtection_lnk (f : FeederNo) (r : Protection) : (s.setProtection f r).lnk = s.lnk := rfl
@[simp] theorem setProtection_sst (f : FeederNo) (r : Protection) : (s.setProtection f r).sst = s.sst := rfl
@[simp] theorem setProtection_ret (f : FeederNo) (r : Protection) : (s.setProtection f r).ret = s.ret := rfl
@[simp] theorem setProtection_scp (f : FeederNo) (r : Protection) : (s.setProtection f r).scp = s.scp := rfl
@[simp] theorem setProtection_bsq (f : FeederNo) (r : Protection) : (s.setProtection f r).bsq = s.bsq := rfl
@[simp] theorem setProtection_sem (f : FeederNo) (r : Protection) : (s.setProtection f r).sem = s.sem := rfl
@[simp] theorem setProtection_gsc (f : FeederNo) (r : Protection) : (s.setProtection f r).gsc = s.gsc := rfl
@[simp] theorem setProtection_vtr (f : FeederNo) (r : Protection) : (s.setProtection f r).vtr = s.vtr := rfl
@[simp] theorem setProtection_ptc (f : FeederNo) (r : Protection) : (s.setProtection f r).ptc = s.ptc := rfl
@[simp] theorem setProtection_pending (f : FeederNo) (r : Protection) : (s.setProtection f r).pending = s.pending := rfl
@[simp] theorem setProtection_breaker (f : FeederNo) (r : Protection) (f0 : FeederNo) : (s.setProtection f r).breaker f0 = s.breaker f0 := rfl
@[simp] theorem setProtection_sec (f : FeederNo) (r : Protection) (c0 : SectionNo) : (s.setProtection f r).sec c0 = s.sec c0 := rfl
@[simp] theorem setProtection_gate (f : FeederNo) (r : Protection) (g0 : GateNo) : (s.setProtection f r).gate g0 = s.gate g0 := rfl
@[simp] theorem setProtection_point (f : FeederNo) (r : Protection) (p0 : PointNo) : (s.setProtection f r).point p0 = s.point p0 := rfl
@[simp] theorem setProtection_vehicle (f : FeederNo) (r : Protection) (n0 : SlotNo) : (s.setProtection f r).vehicle n0 = s.vehicle n0 := rfl
@[simp] theorem setProtection_queue (f : FeederNo) (r : Protection) (a0 : SegmentNo) : (s.setProtection f r).queue a0 = s.queue a0 := rfl
@[simp] theorem setProtection_untracked (f : FeederNo) (r : Protection) (a0 : SegmentNo) : (s.setProtection f r).untracked a0 = s.untracked a0 := rfl
@[simp] theorem setProtection_injection (f : FeederNo) (r : Protection) (f0 : FeederNo) : (s.setProtection f r).injection f0 = s.injection f0 := rfl
@[simp] theorem setProtection_locks (f : FeederNo) (r : Protection) (c0 : SectionNo) : (s.setProtection f r).locks c0 = s.locks c0 := rfl
@[simp] theorem setProtection_lockout (f : FeederNo) (r : Protection) (f0 : FeederNo) : (s.setProtection f r).lockout f0 = s.lockout f0 := rfl
@[simp] theorem setProtection_trip (f : FeederNo) (r : Protection) (f0 : FeederNo) : (s.setProtection f r).trip f0 = s.trip f0 := rfl
@[simp] theorem setProtection_tripCount (f : FeederNo) (r : Protection) (f0 : FeederNo) : (s.setProtection f r).tripCount f0 = s.tripCount f0 := rfl
@[simp] theorem setProtection_topo (f : FeederNo) (r : Protection) : (s.setProtection f r).topo = s.topo := rfl
@[simp] theorem setProtection_feederSet (f : FeederNo) (r : Protection) (f0 : FeederNo) : (s.setProtection f r).feederSet f0 = s.feederSet f0 := rfl
@[simp] theorem setProtection_sectionSet (f : FeederNo) (r : Protection) (c0 : SectionNo) : (s.setProtection f r).sectionSet c0 = s.sectionSet c0 := rfl
@[simp] theorem setProtection_gateSet (f : FeederNo) (r : Protection) (g0 : GateNo) : (s.setProtection f r).gateSet g0 = s.gateSet g0 := rfl
@[simp] theorem setProtection_pointSet (f : FeederNo) (r : Protection) (p0 : PointNo) : (s.setProtection f r).pointSet p0 = s.pointSet p0 := rfl

/-! ### setSec -/

@[simp] theorem setSec_now (c : SectionNo) (r : SectionRec) : (s.setSec c r).now = s.now := rfl
@[simp] theorem setSec_powered (c : SectionNo) (r : SectionRec) : (s.setSec c r).powered = s.powered := rfl
@[simp] theorem setSec_pins (c : SectionNo) (r : SectionRec) : (s.setSec c r).pins = s.pins := rfl
@[simp] theorem setSec_lnk (c : SectionNo) (r : SectionRec) : (s.setSec c r).lnk = s.lnk := rfl
@[simp] theorem setSec_sst (c : SectionNo) (r : SectionRec) : (s.setSec c r).sst = s.sst := rfl
@[simp] theorem setSec_ret (c : SectionNo) (r : SectionRec) : (s.setSec c r).ret = s.ret := rfl
@[simp] theorem setSec_scp (c : SectionNo) (r : SectionRec) : (s.setSec c r).scp = s.scp := rfl
@[simp] theorem setSec_fpu (c : SectionNo) (r : SectionRec) : (s.setSec c r).fpu = s.fpu := rfl
@[simp] theorem setSec_bsq (c : SectionNo) (r : SectionRec) : (s.setSec c r).bsq = s.bsq := rfl
@[simp] theorem setSec_gsc (c : SectionNo) (r : SectionRec) : (s.setSec c r).gsc = s.gsc := rfl
@[simp] theorem setSec_vtr (c : SectionNo) (r : SectionRec) : (s.setSec c r).vtr = s.vtr := rfl
@[simp] theorem setSec_ptc (c : SectionNo) (r : SectionRec) : (s.setSec c r).ptc = s.ptc := rfl
@[simp] theorem setSec_pending (c : SectionNo) (r : SectionRec) : (s.setSec c r).pending = s.pending := rfl
@[simp] theorem setSec_breaker (c : SectionNo) (r : SectionRec) (f0 : FeederNo) : (s.setSec c r).breaker f0 = s.breaker f0 := rfl
@[simp] theorem setSec_protection (c : SectionNo) (r : SectionRec) (f0 : FeederNo) : (s.setSec c r).protection f0 = s.protection f0 := rfl
@[simp] theorem setSec_gate (c : SectionNo) (r : SectionRec) (g0 : GateNo) : (s.setSec c r).gate g0 = s.gate g0 := rfl
@[simp] theorem setSec_point (c : SectionNo) (r : SectionRec) (p0 : PointNo) : (s.setSec c r).point p0 = s.point p0 := rfl
@[simp] theorem setSec_vehicle (c : SectionNo) (r : SectionRec) (n0 : SlotNo) : (s.setSec c r).vehicle n0 = s.vehicle n0 := rfl
@[simp] theorem setSec_queue (c : SectionNo) (r : SectionRec) (a0 : SegmentNo) : (s.setSec c r).queue a0 = s.queue a0 := rfl
@[simp] theorem setSec_untracked (c : SectionNo) (r : SectionRec) (a0 : SegmentNo) : (s.setSec c r).untracked a0 = s.untracked a0 := rfl
@[simp] theorem setSec_injection (c : SectionNo) (r : SectionRec) (f0 : FeederNo) : (s.setSec c r).injection f0 = s.injection f0 := rfl
@[simp] theorem setSec_locks (c : SectionNo) (r : SectionRec) (c0 : SectionNo) : (s.setSec c r).locks c0 = s.locks c0 := rfl
@[simp] theorem setSec_lockout (c : SectionNo) (r : SectionRec) (f0 : FeederNo) : (s.setSec c r).lockout f0 = s.lockout f0 := rfl
@[simp] theorem setSec_trip (c : SectionNo) (r : SectionRec) (f0 : FeederNo) : (s.setSec c r).trip f0 = s.trip f0 := rfl
@[simp] theorem setSec_tripCount (c : SectionNo) (r : SectionRec) (f0 : FeederNo) : (s.setSec c r).tripCount f0 = s.tripCount f0 := rfl
@[simp] theorem setSec_topo (c : SectionNo) (r : SectionRec) : (s.setSec c r).topo = s.topo := rfl
@[simp] theorem setSec_feederSet (c : SectionNo) (r : SectionRec) (f0 : FeederNo) : (s.setSec c r).feederSet f0 = s.feederSet f0 := rfl
@[simp] theorem setSec_sectionSet (c : SectionNo) (r : SectionRec) (c0 : SectionNo) : (s.setSec c r).sectionSet c0 = s.sectionSet c0 := rfl
@[simp] theorem setSec_gateSet (c : SectionNo) (r : SectionRec) (g0 : GateNo) : (s.setSec c r).gateSet g0 = s.gateSet g0 := rfl
@[simp] theorem setSec_pointSet (c : SectionNo) (r : SectionRec) (p0 : PointNo) : (s.setSec c r).pointSet p0 = s.pointSet p0 := rfl

/-! ### setGate -/

@[simp] theorem setGate_now (g : GateNo) (r : GateRec) : (s.setGate g r).now = s.now := rfl
@[simp] theorem setGate_powered (g : GateNo) (r : GateRec) : (s.setGate g r).powered = s.powered := rfl
@[simp] theorem setGate_pins (g : GateNo) (r : GateRec) : (s.setGate g r).pins = s.pins := rfl
@[simp] theorem setGate_lnk (g : GateNo) (r : GateRec) : (s.setGate g r).lnk = s.lnk := rfl
@[simp] theorem setGate_sst (g : GateNo) (r : GateRec) : (s.setGate g r).sst = s.sst := rfl
@[simp] theorem setGate_ret (g : GateNo) (r : GateRec) : (s.setGate g r).ret = s.ret := rfl
@[simp] theorem setGate_scp (g : GateNo) (r : GateRec) : (s.setGate g r).scp = s.scp := rfl
@[simp] theorem setGate_fpu (g : GateNo) (r : GateRec) : (s.setGate g r).fpu = s.fpu := rfl
@[simp] theorem setGate_bsq (g : GateNo) (r : GateRec) : (s.setGate g r).bsq = s.bsq := rfl
@[simp] theorem setGate_sem (g : GateNo) (r : GateRec) : (s.setGate g r).sem = s.sem := rfl
@[simp] theorem setGate_vtr (g : GateNo) (r : GateRec) : (s.setGate g r).vtr = s.vtr := rfl
@[simp] theorem setGate_ptc (g : GateNo) (r : GateRec) : (s.setGate g r).ptc = s.ptc := rfl
@[simp] theorem setGate_pending (g : GateNo) (r : GateRec) : (s.setGate g r).pending = s.pending := rfl
@[simp] theorem setGate_breaker (g : GateNo) (r : GateRec) (f0 : FeederNo) : (s.setGate g r).breaker f0 = s.breaker f0 := rfl
@[simp] theorem setGate_protection (g : GateNo) (r : GateRec) (f0 : FeederNo) : (s.setGate g r).protection f0 = s.protection f0 := rfl
@[simp] theorem setGate_sec (g : GateNo) (r : GateRec) (c0 : SectionNo) : (s.setGate g r).sec c0 = s.sec c0 := rfl
@[simp] theorem setGate_point (g : GateNo) (r : GateRec) (p0 : PointNo) : (s.setGate g r).point p0 = s.point p0 := rfl
@[simp] theorem setGate_vehicle (g : GateNo) (r : GateRec) (n0 : SlotNo) : (s.setGate g r).vehicle n0 = s.vehicle n0 := rfl
@[simp] theorem setGate_queue (g : GateNo) (r : GateRec) (a0 : SegmentNo) : (s.setGate g r).queue a0 = s.queue a0 := rfl
@[simp] theorem setGate_untracked (g : GateNo) (r : GateRec) (a0 : SegmentNo) : (s.setGate g r).untracked a0 = s.untracked a0 := rfl
@[simp] theorem setGate_injection (g : GateNo) (r : GateRec) (f0 : FeederNo) : (s.setGate g r).injection f0 = s.injection f0 := rfl
@[simp] theorem setGate_locks (g : GateNo) (r : GateRec) (c0 : SectionNo) : (s.setGate g r).locks c0 = s.locks c0 := rfl
@[simp] theorem setGate_lockout (g : GateNo) (r : GateRec) (f0 : FeederNo) : (s.setGate g r).lockout f0 = s.lockout f0 := rfl
@[simp] theorem setGate_trip (g : GateNo) (r : GateRec) (f0 : FeederNo) : (s.setGate g r).trip f0 = s.trip f0 := rfl
@[simp] theorem setGate_tripCount (g : GateNo) (r : GateRec) (f0 : FeederNo) : (s.setGate g r).tripCount f0 = s.tripCount f0 := rfl
@[simp] theorem setGate_topo (g : GateNo) (r : GateRec) : (s.setGate g r).topo = s.topo := rfl
@[simp] theorem setGate_feederSet (g : GateNo) (r : GateRec) (f0 : FeederNo) : (s.setGate g r).feederSet f0 = s.feederSet f0 := rfl
@[simp] theorem setGate_sectionSet (g : GateNo) (r : GateRec) (c0 : SectionNo) : (s.setGate g r).sectionSet c0 = s.sectionSet c0 := rfl
@[simp] theorem setGate_gateSet (g : GateNo) (r : GateRec) (g0 : GateNo) : (s.setGate g r).gateSet g0 = s.gateSet g0 := rfl
@[simp] theorem setGate_pointSet (g : GateNo) (r : GateRec) (p0 : PointNo) : (s.setGate g r).pointSet p0 = s.pointSet p0 := rfl

/-! ### setPoint -/

@[simp] theorem setPoint_now (p : PointNo) (r : PointRec) : (s.setPoint p r).now = s.now := rfl
@[simp] theorem setPoint_powered (p : PointNo) (r : PointRec) : (s.setPoint p r).powered = s.powered := rfl
@[simp] theorem setPoint_pins (p : PointNo) (r : PointRec) : (s.setPoint p r).pins = s.pins := rfl
@[simp] theorem setPoint_lnk (p : PointNo) (r : PointRec) : (s.setPoint p r).lnk = s.lnk := rfl
@[simp] theorem setPoint_sst (p : PointNo) (r : PointRec) : (s.setPoint p r).sst = s.sst := rfl
@[simp] theorem setPoint_ret (p : PointNo) (r : PointRec) : (s.setPoint p r).ret = s.ret := rfl
@[simp] theorem setPoint_scp (p : PointNo) (r : PointRec) : (s.setPoint p r).scp = s.scp := rfl
@[simp] theorem setPoint_fpu (p : PointNo) (r : PointRec) : (s.setPoint p r).fpu = s.fpu := rfl
@[simp] theorem setPoint_bsq (p : PointNo) (r : PointRec) : (s.setPoint p r).bsq = s.bsq := rfl
@[simp] theorem setPoint_sem (p : PointNo) (r : PointRec) : (s.setPoint p r).sem = s.sem := rfl
@[simp] theorem setPoint_gsc (p : PointNo) (r : PointRec) : (s.setPoint p r).gsc = s.gsc := rfl
@[simp] theorem setPoint_vtr (p : PointNo) (r : PointRec) : (s.setPoint p r).vtr = s.vtr := rfl
@[simp] theorem setPoint_pending (p : PointNo) (r : PointRec) : (s.setPoint p r).pending = s.pending := rfl
@[simp] theorem setPoint_breaker (p : PointNo) (r : PointRec) (f0 : FeederNo) : (s.setPoint p r).breaker f0 = s.breaker f0 := rfl
@[simp] theorem setPoint_protection (p : PointNo) (r : PointRec) (f0 : FeederNo) : (s.setPoint p r).protection f0 = s.protection f0 := rfl
@[simp] theorem setPoint_sec (p : PointNo) (r : PointRec) (c0 : SectionNo) : (s.setPoint p r).sec c0 = s.sec c0 := rfl
@[simp] theorem setPoint_gate (p : PointNo) (r : PointRec) (g0 : GateNo) : (s.setPoint p r).gate g0 = s.gate g0 := rfl
@[simp] theorem setPoint_vehicle (p : PointNo) (r : PointRec) (n0 : SlotNo) : (s.setPoint p r).vehicle n0 = s.vehicle n0 := rfl
@[simp] theorem setPoint_queue (p : PointNo) (r : PointRec) (a0 : SegmentNo) : (s.setPoint p r).queue a0 = s.queue a0 := rfl
@[simp] theorem setPoint_untracked (p : PointNo) (r : PointRec) (a0 : SegmentNo) : (s.setPoint p r).untracked a0 = s.untracked a0 := rfl
@[simp] theorem setPoint_injection (p : PointNo) (r : PointRec) (f0 : FeederNo) : (s.setPoint p r).injection f0 = s.injection f0 := rfl
@[simp] theorem setPoint_locks (p : PointNo) (r : PointRec) (c0 : SectionNo) : (s.setPoint p r).locks c0 = s.locks c0 := rfl
@[simp] theorem setPoint_lockout (p : PointNo) (r : PointRec) (f0 : FeederNo) : (s.setPoint p r).lockout f0 = s.lockout f0 := rfl
@[simp] theorem setPoint_trip (p : PointNo) (r : PointRec) (f0 : FeederNo) : (s.setPoint p r).trip f0 = s.trip f0 := rfl
@[simp] theorem setPoint_tripCount (p : PointNo) (r : PointRec) (f0 : FeederNo) : (s.setPoint p r).tripCount f0 = s.tripCount f0 := rfl
@[simp] theorem setPoint_topo (p : PointNo) (r : PointRec) : (s.setPoint p r).topo = s.topo := rfl
@[simp] theorem setPoint_feederSet (p : PointNo) (r : PointRec) (f0 : FeederNo) : (s.setPoint p r).feederSet f0 = s.feederSet f0 := rfl
@[simp] theorem setPoint_sectionSet (p : PointNo) (r : PointRec) (c0 : SectionNo) : (s.setPoint p r).sectionSet c0 = s.sectionSet c0 := rfl
@[simp] theorem setPoint_gateSet (p : PointNo) (r : PointRec) (g0 : GateNo) : (s.setPoint p r).gateSet g0 = s.gateSet g0 := rfl
@[simp] theorem setPoint_pointSet (p : PointNo) (r : PointRec) (p0 : PointNo) : (s.setPoint p r).pointSet p0 = s.pointSet p0 := rfl

/-! ### setVehicle -/

@[simp] theorem setVehicle_now (n : SlotNo) (v : Option Vehicle) : (s.setVehicle n v).now = s.now := rfl
@[simp] theorem setVehicle_powered (n : SlotNo) (v : Option Vehicle) : (s.setVehicle n v).powered = s.powered := rfl
@[simp] theorem setVehicle_pins (n : SlotNo) (v : Option Vehicle) : (s.setVehicle n v).pins = s.pins := rfl
@[simp] theorem setVehicle_lnk (n : SlotNo) (v : Option Vehicle) : (s.setVehicle n v).lnk = s.lnk := rfl
@[simp] theorem setVehicle_sst (n : SlotNo) (v : Option Vehicle) : (s.setVehicle n v).sst = s.sst := rfl
@[simp] theorem setVehicle_ret (n : SlotNo) (v : Option Vehicle) : (s.setVehicle n v).ret = s.ret := rfl
@[simp] theorem setVehicle_scp (n : SlotNo) (v : Option Vehicle) : (s.setVehicle n v).scp = s.scp := rfl
@[simp] theorem setVehicle_fpu (n : SlotNo) (v : Option Vehicle) : (s.setVehicle n v).fpu = s.fpu := rfl
@[simp] theorem setVehicle_bsq (n : SlotNo) (v : Option Vehicle) : (s.setVehicle n v).bsq = s.bsq := rfl
@[simp] theorem setVehicle_sem (n : SlotNo) (v : Option Vehicle) : (s.setVehicle n v).sem = s.sem := rfl
@[simp] theorem setVehicle_gsc (n : SlotNo) (v : Option Vehicle) : (s.setVehicle n v).gsc = s.gsc := rfl
@[simp] theorem setVehicle_ptc (n : SlotNo) (v : Option Vehicle) : (s.setVehicle n v).ptc = s.ptc := rfl
@[simp] theorem setVehicle_pending (n : SlotNo) (v : Option Vehicle) : (s.setVehicle n v).pending = s.pending := rfl
@[simp] theorem setVehicle_breaker (n : SlotNo) (v : Option Vehicle) (f0 : FeederNo) : (s.setVehicle n v).breaker f0 = s.breaker f0 := rfl
@[simp] theorem setVehicle_protection (n : SlotNo) (v : Option Vehicle) (f0 : FeederNo) : (s.setVehicle n v).protection f0 = s.protection f0 := rfl
@[simp] theorem setVehicle_sec (n : SlotNo) (v : Option Vehicle) (c0 : SectionNo) : (s.setVehicle n v).sec c0 = s.sec c0 := rfl
@[simp] theorem setVehicle_gate (n : SlotNo) (v : Option Vehicle) (g0 : GateNo) : (s.setVehicle n v).gate g0 = s.gate g0 := rfl
@[simp] theorem setVehicle_point (n : SlotNo) (v : Option Vehicle) (p0 : PointNo) : (s.setVehicle n v).point p0 = s.point p0 := rfl
@[simp] theorem setVehicle_queue (n : SlotNo) (v : Option Vehicle) (a0 : SegmentNo) : (s.setVehicle n v).queue a0 = s.queue a0 := rfl
@[simp] theorem setVehicle_untracked (n : SlotNo) (v : Option Vehicle) (a0 : SegmentNo) : (s.setVehicle n v).untracked a0 = s.untracked a0 := rfl
@[simp] theorem setVehicle_injection (n : SlotNo) (v : Option Vehicle) (f0 : FeederNo) : (s.setVehicle n v).injection f0 = s.injection f0 := rfl
@[simp] theorem setVehicle_locks (n : SlotNo) (v : Option Vehicle) (c0 : SectionNo) : (s.setVehicle n v).locks c0 = s.locks c0 := rfl
@[simp] theorem setVehicle_lockout (n : SlotNo) (v : Option Vehicle) (f0 : FeederNo) : (s.setVehicle n v).lockout f0 = s.lockout f0 := rfl
@[simp] theorem setVehicle_trip (n : SlotNo) (v : Option Vehicle) (f0 : FeederNo) : (s.setVehicle n v).trip f0 = s.trip f0 := rfl
@[simp] theorem setVehicle_tripCount (n : SlotNo) (v : Option Vehicle) (f0 : FeederNo) : (s.setVehicle n v).tripCount f0 = s.tripCount f0 := rfl
@[simp] theorem setVehicle_topo (n : SlotNo) (v : Option Vehicle) : (s.setVehicle n v).topo = s.topo := rfl
@[simp] theorem setVehicle_feederSet (n : SlotNo) (v : Option Vehicle) (f0 : FeederNo) : (s.setVehicle n v).feederSet f0 = s.feederSet f0 := rfl
@[simp] theorem setVehicle_sectionSet (n : SlotNo) (v : Option Vehicle) (c0 : SectionNo) : (s.setVehicle n v).sectionSet c0 = s.sectionSet c0 := rfl
@[simp] theorem setVehicle_gateSet (n : SlotNo) (v : Option Vehicle) (g0 : GateNo) : (s.setVehicle n v).gateSet g0 = s.gateSet g0 := rfl
@[simp] theorem setVehicle_pointSet (n : SlotNo) (v : Option Vehicle) (p0 : PointNo) : (s.setVehicle n v).pointSet p0 = s.pointSet p0 := rfl

/-! ### setQueue -/

@[simp] theorem setQueue_now (g : SegmentNo) (q : List SlotNo) : (s.setQueue g q).now = s.now := rfl
@[simp] theorem setQueue_powered (g : SegmentNo) (q : List SlotNo) : (s.setQueue g q).powered = s.powered := rfl
@[simp] theorem setQueue_pins (g : SegmentNo) (q : List SlotNo) : (s.setQueue g q).pins = s.pins := rfl
@[simp] theorem setQueue_lnk (g : SegmentNo) (q : List SlotNo) : (s.setQueue g q).lnk = s.lnk := rfl
@[simp] theorem setQueue_sst (g : SegmentNo) (q : List SlotNo) : (s.setQueue g q).sst = s.sst := rfl
@[simp] theorem setQueue_ret (g : SegmentNo) (q : List SlotNo) : (s.setQueue g q).ret = s.ret := rfl
@[simp] theorem setQueue_scp (g : SegmentNo) (q : List SlotNo) : (s.setQueue g q).scp = s.scp := rfl
@[simp] theorem setQueue_fpu (g : SegmentNo) (q : List SlotNo) : (s.setQueue g q).fpu = s.fpu := rfl
@[simp] theorem setQueue_bsq (g : SegmentNo) (q : List SlotNo) : (s.setQueue g q).bsq = s.bsq := rfl
@[simp] theorem setQueue_sem (g : SegmentNo) (q : List SlotNo) : (s.setQueue g q).sem = s.sem := rfl
@[simp] theorem setQueue_gsc (g : SegmentNo) (q : List SlotNo) : (s.setQueue g q).gsc = s.gsc := rfl
@[simp] theorem setQueue_ptc (g : SegmentNo) (q : List SlotNo) : (s.setQueue g q).ptc = s.ptc := rfl
@[simp] theorem setQueue_pending (g : SegmentNo) (q : List SlotNo) : (s.setQueue g q).pending = s.pending := rfl
@[simp] theorem setQueue_breaker (g : SegmentNo) (q : List SlotNo) (f0 : FeederNo) : (s.setQueue g q).breaker f0 = s.breaker f0 := rfl
@[simp] theorem setQueue_protection (g : SegmentNo) (q : List SlotNo) (f0 : FeederNo) : (s.setQueue g q).protection f0 = s.protection f0 := rfl
@[simp] theorem setQueue_sec (g : SegmentNo) (q : List SlotNo) (c0 : SectionNo) : (s.setQueue g q).sec c0 = s.sec c0 := rfl
@[simp] theorem setQueue_gate (g : SegmentNo) (q : List SlotNo) (g0 : GateNo) : (s.setQueue g q).gate g0 = s.gate g0 := rfl
@[simp] theorem setQueue_point (g : SegmentNo) (q : List SlotNo) (p0 : PointNo) : (s.setQueue g q).point p0 = s.point p0 := rfl
@[simp] theorem setQueue_vehicle (g : SegmentNo) (q : List SlotNo) (n0 : SlotNo) : (s.setQueue g q).vehicle n0 = s.vehicle n0 := rfl
@[simp] theorem setQueue_untracked (g : SegmentNo) (q : List SlotNo) (a0 : SegmentNo) : (s.setQueue g q).untracked a0 = s.untracked a0 := rfl
@[simp] theorem setQueue_injection (g : SegmentNo) (q : List SlotNo) (f0 : FeederNo) : (s.setQueue g q).injection f0 = s.injection f0 := rfl
@[simp] theorem setQueue_locks (g : SegmentNo) (q : List SlotNo) (c0 : SectionNo) : (s.setQueue g q).locks c0 = s.locks c0 := rfl
@[simp] theorem setQueue_lockout (g : SegmentNo) (q : List SlotNo) (f0 : FeederNo) : (s.setQueue g q).lockout f0 = s.lockout f0 := rfl
@[simp] theorem setQueue_trip (g : SegmentNo) (q : List SlotNo) (f0 : FeederNo) : (s.setQueue g q).trip f0 = s.trip f0 := rfl
@[simp] theorem setQueue_tripCount (g : SegmentNo) (q : List SlotNo) (f0 : FeederNo) : (s.setQueue g q).tripCount f0 = s.tripCount f0 := rfl
@[simp] theorem setQueue_topo (g : SegmentNo) (q : List SlotNo) : (s.setQueue g q).topo = s.topo := rfl
@[simp] theorem setQueue_feederSet (g : SegmentNo) (q : List SlotNo) (f0 : FeederNo) : (s.setQueue g q).feederSet f0 = s.feederSet f0 := rfl
@[simp] theorem setQueue_sectionSet (g : SegmentNo) (q : List SlotNo) (c0 : SectionNo) : (s.setQueue g q).sectionSet c0 = s.sectionSet c0 := rfl
@[simp] theorem setQueue_gateSet (g : SegmentNo) (q : List SlotNo) (g0 : GateNo) : (s.setQueue g q).gateSet g0 = s.gateSet g0 := rfl
@[simp] theorem setQueue_pointSet (g : SegmentNo) (q : List SlotNo) (p0 : PointNo) : (s.setQueue g q).pointSet p0 = s.pointSet p0 := rfl

/-! ### setUntracked -/

@[simp] theorem setUntracked_now (g : SegmentNo) (k : Nat) : (s.setUntracked g k).now = s.now := rfl
@[simp] theorem setUntracked_powered (g : SegmentNo) (k : Nat) : (s.setUntracked g k).powered = s.powered := rfl
@[simp] theorem setUntracked_pins (g : SegmentNo) (k : Nat) : (s.setUntracked g k).pins = s.pins := rfl
@[simp] theorem setUntracked_lnk (g : SegmentNo) (k : Nat) : (s.setUntracked g k).lnk = s.lnk := rfl
@[simp] theorem setUntracked_sst (g : SegmentNo) (k : Nat) : (s.setUntracked g k).sst = s.sst := rfl
@[simp] theorem setUntracked_ret (g : SegmentNo) (k : Nat) : (s.setUntracked g k).ret = s.ret := rfl
@[simp] theorem setUntracked_scp (g : SegmentNo) (k : Nat) : (s.setUntracked g k).scp = s.scp := rfl
@[simp] theorem setUntracked_fpu (g : SegmentNo) (k : Nat) : (s.setUntracked g k).fpu = s.fpu := rfl
@[simp] theorem setUntracked_bsq (g : SegmentNo) (k : Nat) : (s.setUntracked g k).bsq = s.bsq := rfl
@[simp] theorem setUntracked_sem (g : SegmentNo) (k : Nat) : (s.setUntracked g k).sem = s.sem := rfl
@[simp] theorem setUntracked_gsc (g : SegmentNo) (k : Nat) : (s.setUntracked g k).gsc = s.gsc := rfl
@[simp] theorem setUntracked_ptc (g : SegmentNo) (k : Nat) : (s.setUntracked g k).ptc = s.ptc := rfl
@[simp] theorem setUntracked_pending (g : SegmentNo) (k : Nat) : (s.setUntracked g k).pending = s.pending := rfl
@[simp] theorem setUntracked_breaker (g : SegmentNo) (k : Nat) (f0 : FeederNo) : (s.setUntracked g k).breaker f0 = s.breaker f0 := rfl
@[simp] theorem setUntracked_protection (g : SegmentNo) (k : Nat) (f0 : FeederNo) : (s.setUntracked g k).protection f0 = s.protection f0 := rfl
@[simp] theorem setUntracked_sec (g : SegmentNo) (k : Nat) (c0 : SectionNo) : (s.setUntracked g k).sec c0 = s.sec c0 := rfl
@[simp] theorem setUntracked_gate (g : SegmentNo) (k : Nat) (g0 : GateNo) : (s.setUntracked g k).gate g0 = s.gate g0 := rfl
@[simp] theorem setUntracked_point (g : SegmentNo) (k : Nat) (p0 : PointNo) : (s.setUntracked g k).point p0 = s.point p0 := rfl
@[simp] theorem setUntracked_vehicle (g : SegmentNo) (k : Nat) (n0 : SlotNo) : (s.setUntracked g k).vehicle n0 = s.vehicle n0 := rfl
@[simp] theorem setUntracked_queue (g : SegmentNo) (k : Nat) (a0 : SegmentNo) : (s.setUntracked g k).queue a0 = s.queue a0 := rfl
@[simp] theorem setUntracked_injection (g : SegmentNo) (k : Nat) (f0 : FeederNo) : (s.setUntracked g k).injection f0 = s.injection f0 := rfl
@[simp] theorem setUntracked_locks (g : SegmentNo) (k : Nat) (c0 : SectionNo) : (s.setUntracked g k).locks c0 = s.locks c0 := rfl
@[simp] theorem setUntracked_lockout (g : SegmentNo) (k : Nat) (f0 : FeederNo) : (s.setUntracked g k).lockout f0 = s.lockout f0 := rfl
@[simp] theorem setUntracked_trip (g : SegmentNo) (k : Nat) (f0 : FeederNo) : (s.setUntracked g k).trip f0 = s.trip f0 := rfl
@[simp] theorem setUntracked_tripCount (g : SegmentNo) (k : Nat) (f0 : FeederNo) : (s.setUntracked g k).tripCount f0 = s.tripCount f0 := rfl
@[simp] theorem setUntracked_topo (g : SegmentNo) (k : Nat) : (s.setUntracked g k).topo = s.topo := rfl
@[simp] theorem setUntracked_feederSet (g : SegmentNo) (k : Nat) (f0 : FeederNo) : (s.setUntracked g k).feederSet f0 = s.feederSet f0 := rfl
@[simp] theorem setUntracked_sectionSet (g : SegmentNo) (k : Nat) (c0 : SectionNo) : (s.setUntracked g k).sectionSet c0 = s.sectionSet c0 := rfl
@[simp] theorem setUntracked_gateSet (g : SegmentNo) (k : Nat) (g0 : GateNo) : (s.setUntracked g k).gateSet g0 = s.gateSet g0 := rfl
@[simp] theorem setUntracked_pointSet (g : SegmentNo) (k : Nat) (p0 : PointNo) : (s.setUntracked g k).pointSet p0 = s.pointSet p0 := rfl

/-! ### setInjection -/

@[simp] theorem setInjection_now (f : FeederNo) (j : Injection) : (s.setInjection f j).now = s.now := rfl
@[simp] theorem setInjection_powered (f : FeederNo) (j : Injection) : (s.setInjection f j).powered = s.powered := rfl
@[simp] theorem setInjection_pins (f : FeederNo) (j : Injection) : (s.setInjection f j).pins = s.pins := rfl
@[simp] theorem setInjection_lnk (f : FeederNo) (j : Injection) : (s.setInjection f j).lnk = s.lnk := rfl
@[simp] theorem setInjection_sst (f : FeederNo) (j : Injection) : (s.setInjection f j).sst = s.sst := rfl
@[simp] theorem setInjection_ret (f : FeederNo) (j : Injection) : (s.setInjection f j).ret = s.ret := rfl
@[simp] theorem setInjection_fpu (f : FeederNo) (j : Injection) : (s.setInjection f j).fpu = s.fpu := rfl
@[simp] theorem setInjection_bsq (f : FeederNo) (j : Injection) : (s.setInjection f j).bsq = s.bsq := rfl
@[simp] theorem setInjection_sem (f : FeederNo) (j : Injection) : (s.setInjection f j).sem = s.sem := rfl
@[simp] theorem setInjection_gsc (f : FeederNo) (j : Injection) : (s.setInjection f j).gsc = s.gsc := rfl
@[simp] theorem setInjection_vtr (f : FeederNo) (j : Injection) : (s.setInjection f j).vtr = s.vtr := rfl
@[simp] theorem setInjection_ptc (f : FeederNo) (j : Injection) : (s.setInjection f j).ptc = s.ptc := rfl
@[simp] theorem setInjection_pending (f : FeederNo) (j : Injection) : (s.setInjection f j).pending = s.pending := rfl
@[simp] theorem setInjection_breaker (f : FeederNo) (j : Injection) (f0 : FeederNo) : (s.setInjection f j).breaker f0 = s.breaker f0 := rfl
@[simp] theorem setInjection_protection (f : FeederNo) (j : Injection) (f0 : FeederNo) : (s.setInjection f j).protection f0 = s.protection f0 := rfl
@[simp] theorem setInjection_sec (f : FeederNo) (j : Injection) (c0 : SectionNo) : (s.setInjection f j).sec c0 = s.sec c0 := rfl
@[simp] theorem setInjection_gate (f : FeederNo) (j : Injection) (g0 : GateNo) : (s.setInjection f j).gate g0 = s.gate g0 := rfl
@[simp] theorem setInjection_point (f : FeederNo) (j : Injection) (p0 : PointNo) : (s.setInjection f j).point p0 = s.point p0 := rfl
@[simp] theorem setInjection_vehicle (f : FeederNo) (j : Injection) (n0 : SlotNo) : (s.setInjection f j).vehicle n0 = s.vehicle n0 := rfl
@[simp] theorem setInjection_queue (f : FeederNo) (j : Injection) (a0 : SegmentNo) : (s.setInjection f j).queue a0 = s.queue a0 := rfl
@[simp] theorem setInjection_untracked (f : FeederNo) (j : Injection) (a0 : SegmentNo) : (s.setInjection f j).untracked a0 = s.untracked a0 := rfl
@[simp] theorem setInjection_locks (f : FeederNo) (j : Injection) (c0 : SectionNo) : (s.setInjection f j).locks c0 = s.locks c0 := rfl
@[simp] theorem setInjection_lockout (f : FeederNo) (j : Injection) (f0 : FeederNo) : (s.setInjection f j).lockout f0 = s.lockout f0 := rfl
@[simp] theorem setInjection_trip (f : FeederNo) (j : Injection) (f0 : FeederNo) : (s.setInjection f j).trip f0 = s.trip f0 := rfl
@[simp] theorem setInjection_tripCount (f : FeederNo) (j : Injection) (f0 : FeederNo) : (s.setInjection f j).tripCount f0 = s.tripCount f0 := rfl
@[simp] theorem setInjection_topo (f : FeederNo) (j : Injection) : (s.setInjection f j).topo = s.topo := rfl
@[simp] theorem setInjection_feederSet (f : FeederNo) (j : Injection) (f0 : FeederNo) : (s.setInjection f j).feederSet f0 = s.feederSet f0 := rfl
@[simp] theorem setInjection_sectionSet (f : FeederNo) (j : Injection) (c0 : SectionNo) : (s.setInjection f j).sectionSet c0 = s.sectionSet c0 := rfl
@[simp] theorem setInjection_gateSet (f : FeederNo) (j : Injection) (g0 : GateNo) : (s.setInjection f j).gateSet g0 = s.gateSet g0 := rfl
@[simp] theorem setInjection_pointSet (f : FeederNo) (j : Injection) (p0 : PointNo) : (s.setInjection f j).pointSet p0 = s.pointSet p0 := rfl

/-! ### setLocks -/

@[simp] theorem setLocks_now (c : SectionNo) (l : List Nat) : (s.setLocks c l).now = s.now := rfl
@[simp] theorem setLocks_powered (c : SectionNo) (l : List Nat) : (s.setLocks c l).powered = s.powered := rfl
@[simp] theorem setLocks_pins (c : SectionNo) (l : List Nat) : (s.setLocks c l).pins = s.pins := rfl
@[simp] theorem setLocks_lnk (c : SectionNo) (l : List Nat) : (s.setLocks c l).lnk = s.lnk := rfl
@[simp] theorem setLocks_sst (c : SectionNo) (l : List Nat) : (s.setLocks c l).sst = s.sst := rfl
@[simp] theorem setLocks_scp (c : SectionNo) (l : List Nat) : (s.setLocks c l).scp = s.scp := rfl
@[simp] theorem setLocks_fpu (c : SectionNo) (l : List Nat) : (s.setLocks c l).fpu = s.fpu := rfl
@[simp] theorem setLocks_bsq (c : SectionNo) (l : List Nat) : (s.setLocks c l).bsq = s.bsq := rfl
@[simp] theorem setLocks_sem (c : SectionNo) (l : List Nat) : (s.setLocks c l).sem = s.sem := rfl
@[simp] theorem setLocks_gsc (c : SectionNo) (l : List Nat) : (s.setLocks c l).gsc = s.gsc := rfl
@[simp] theorem setLocks_vtr (c : SectionNo) (l : List Nat) : (s.setLocks c l).vtr = s.vtr := rfl
@[simp] theorem setLocks_ptc (c : SectionNo) (l : List Nat) : (s.setLocks c l).ptc = s.ptc := rfl
@[simp] theorem setLocks_pending (c : SectionNo) (l : List Nat) : (s.setLocks c l).pending = s.pending := rfl
@[simp] theorem setLocks_breaker (c : SectionNo) (l : List Nat) (f0 : FeederNo) : (s.setLocks c l).breaker f0 = s.breaker f0 := rfl
@[simp] theorem setLocks_protection (c : SectionNo) (l : List Nat) (f0 : FeederNo) : (s.setLocks c l).protection f0 = s.protection f0 := rfl
@[simp] theorem setLocks_sec (c : SectionNo) (l : List Nat) (c0 : SectionNo) : (s.setLocks c l).sec c0 = s.sec c0 := rfl
@[simp] theorem setLocks_gate (c : SectionNo) (l : List Nat) (g0 : GateNo) : (s.setLocks c l).gate g0 = s.gate g0 := rfl
@[simp] theorem setLocks_point (c : SectionNo) (l : List Nat) (p0 : PointNo) : (s.setLocks c l).point p0 = s.point p0 := rfl
@[simp] theorem setLocks_vehicle (c : SectionNo) (l : List Nat) (n0 : SlotNo) : (s.setLocks c l).vehicle n0 = s.vehicle n0 := rfl
@[simp] theorem setLocks_queue (c : SectionNo) (l : List Nat) (a0 : SegmentNo) : (s.setLocks c l).queue a0 = s.queue a0 := rfl
@[simp] theorem setLocks_untracked (c : SectionNo) (l : List Nat) (a0 : SegmentNo) : (s.setLocks c l).untracked a0 = s.untracked a0 := rfl
@[simp] theorem setLocks_injection (c : SectionNo) (l : List Nat) (f0 : FeederNo) : (s.setLocks c l).injection f0 = s.injection f0 := rfl
@[simp] theorem setLocks_lockout (c : SectionNo) (l : List Nat) (f0 : FeederNo) : (s.setLocks c l).lockout f0 = s.lockout f0 := rfl
@[simp] theorem setLocks_trip (c : SectionNo) (l : List Nat) (f0 : FeederNo) : (s.setLocks c l).trip f0 = s.trip f0 := rfl
@[simp] theorem setLocks_tripCount (c : SectionNo) (l : List Nat) (f0 : FeederNo) : (s.setLocks c l).tripCount f0 = s.tripCount f0 := rfl
@[simp] theorem setLocks_topo (c : SectionNo) (l : List Nat) : (s.setLocks c l).topo = s.topo := rfl
@[simp] theorem setLocks_feederSet (c : SectionNo) (l : List Nat) (f0 : FeederNo) : (s.setLocks c l).feederSet f0 = s.feederSet f0 := rfl
@[simp] theorem setLocks_sectionSet (c : SectionNo) (l : List Nat) (c0 : SectionNo) : (s.setLocks c l).sectionSet c0 = s.sectionSet c0 := rfl
@[simp] theorem setLocks_gateSet (c : SectionNo) (l : List Nat) (g0 : GateNo) : (s.setLocks c l).gateSet g0 = s.gateSet g0 := rfl
@[simp] theorem setLocks_pointSet (c : SectionNo) (l : List Nat) (p0 : PointNo) : (s.setLocks c l).pointSet p0 = s.pointSet p0 := rfl

/-! ### setLockout -/

@[simp] theorem setLockout_now (f : FeederNo) (w : Option LockoutCause) : (s.setLockout f w).now = s.now := rfl
@[simp] theorem setLockout_powered (f : FeederNo) (w : Option LockoutCause) : (s.setLockout f w).powered = s.powered := rfl
@[simp] theorem setLockout_pins (f : FeederNo) (w : Option LockoutCause) : (s.setLockout f w).pins = s.pins := rfl
@[simp] theorem setLockout_lnk (f : FeederNo) (w : Option LockoutCause) : (s.setLockout f w).lnk = s.lnk := rfl
@[simp] theorem setLockout_sst (f : FeederNo) (w : Option LockoutCause) : (s.setLockout f w).sst = s.sst := rfl
@[simp] theorem setLockout_scp (f : FeederNo) (w : Option LockoutCause) : (s.setLockout f w).scp = s.scp := rfl
@[simp] theorem setLockout_fpu (f : FeederNo) (w : Option LockoutCause) : (s.setLockout f w).fpu = s.fpu := rfl
@[simp] theorem setLockout_bsq (f : FeederNo) (w : Option LockoutCause) : (s.setLockout f w).bsq = s.bsq := rfl
@[simp] theorem setLockout_sem (f : FeederNo) (w : Option LockoutCause) : (s.setLockout f w).sem = s.sem := rfl
@[simp] theorem setLockout_gsc (f : FeederNo) (w : Option LockoutCause) : (s.setLockout f w).gsc = s.gsc := rfl
@[simp] theorem setLockout_vtr (f : FeederNo) (w : Option LockoutCause) : (s.setLockout f w).vtr = s.vtr := rfl
@[simp] theorem setLockout_ptc (f : FeederNo) (w : Option LockoutCause) : (s.setLockout f w).ptc = s.ptc := rfl
@[simp] theorem setLockout_pending (f : FeederNo) (w : Option LockoutCause) : (s.setLockout f w).pending = s.pending := rfl
@[simp] theorem setLockout_breaker (f : FeederNo) (w : Option LockoutCause) (f0 : FeederNo) : (s.setLockout f w).breaker f0 = s.breaker f0 := rfl
@[simp] theorem setLockout_protection (f : FeederNo) (w : Option LockoutCause) (f0 : FeederNo) : (s.setLockout f w).protection f0 = s.protection f0 := rfl
@[simp] theorem setLockout_sec (f : FeederNo) (w : Option LockoutCause) (c0 : SectionNo) : (s.setLockout f w).sec c0 = s.sec c0 := rfl
@[simp] theorem setLockout_gate (f : FeederNo) (w : Option LockoutCause) (g0 : GateNo) : (s.setLockout f w).gate g0 = s.gate g0 := rfl
@[simp] theorem setLockout_point (f : FeederNo) (w : Option LockoutCause) (p0 : PointNo) : (s.setLockout f w).point p0 = s.point p0 := rfl
@[simp] theorem setLockout_vehicle (f : FeederNo) (w : Option LockoutCause) (n0 : SlotNo) : (s.setLockout f w).vehicle n0 = s.vehicle n0 := rfl
@[simp] theorem setLockout_queue (f : FeederNo) (w : Option LockoutCause) (a0 : SegmentNo) : (s.setLockout f w).queue a0 = s.queue a0 := rfl
@[simp] theorem setLockout_untracked (f : FeederNo) (w : Option LockoutCause) (a0 : SegmentNo) : (s.setLockout f w).untracked a0 = s.untracked a0 := rfl
@[simp] theorem setLockout_injection (f : FeederNo) (w : Option LockoutCause) (f0 : FeederNo) : (s.setLockout f w).injection f0 = s.injection f0 := rfl
@[simp] theorem setLockout_locks (f : FeederNo) (w : Option LockoutCause) (c0 : SectionNo) : (s.setLockout f w).locks c0 = s.locks c0 := rfl
@[simp] theorem setLockout_trip (f : FeederNo) (w : Option LockoutCause) (f0 : FeederNo) : (s.setLockout f w).trip f0 = s.trip f0 := rfl
@[simp] theorem setLockout_tripCount (f : FeederNo) (w : Option LockoutCause) (f0 : FeederNo) : (s.setLockout f w).tripCount f0 = s.tripCount f0 := rfl
@[simp] theorem setLockout_topo (f : FeederNo) (w : Option LockoutCause) : (s.setLockout f w).topo = s.topo := rfl
@[simp] theorem setLockout_feederSet (f : FeederNo) (w : Option LockoutCause) (f0 : FeederNo) : (s.setLockout f w).feederSet f0 = s.feederSet f0 := rfl
@[simp] theorem setLockout_sectionSet (f : FeederNo) (w : Option LockoutCause) (c0 : SectionNo) : (s.setLockout f w).sectionSet c0 = s.sectionSet c0 := rfl
@[simp] theorem setLockout_gateSet (f : FeederNo) (w : Option LockoutCause) (g0 : GateNo) : (s.setLockout f w).gateSet g0 = s.gateSet g0 := rfl
@[simp] theorem setLockout_pointSet (f : FeederNo) (w : Option LockoutCause) (p0 : PointNo) : (s.setLockout f w).pointSet p0 = s.pointSet p0 := rfl

/-! ### setTrip -/

@[simp] theorem setTrip_now (f : FeederNo) (r : Option TripRecord) (k : Nat) : (s.setTrip f r k).now = s.now := rfl
@[simp] theorem setTrip_powered (f : FeederNo) (r : Option TripRecord) (k : Nat) : (s.setTrip f r k).powered = s.powered := rfl
@[simp] theorem setTrip_pins (f : FeederNo) (r : Option TripRecord) (k : Nat) : (s.setTrip f r k).pins = s.pins := rfl
@[simp] theorem setTrip_lnk (f : FeederNo) (r : Option TripRecord) (k : Nat) : (s.setTrip f r k).lnk = s.lnk := rfl
@[simp] theorem setTrip_sst (f : FeederNo) (r : Option TripRecord) (k : Nat) : (s.setTrip f r k).sst = s.sst := rfl
@[simp] theorem setTrip_scp (f : FeederNo) (r : Option TripRecord) (k : Nat) : (s.setTrip f r k).scp = s.scp := rfl
@[simp] theorem setTrip_fpu (f : FeederNo) (r : Option TripRecord) (k : Nat) : (s.setTrip f r k).fpu = s.fpu := rfl
@[simp] theorem setTrip_bsq (f : FeederNo) (r : Option TripRecord) (k : Nat) : (s.setTrip f r k).bsq = s.bsq := rfl
@[simp] theorem setTrip_sem (f : FeederNo) (r : Option TripRecord) (k : Nat) : (s.setTrip f r k).sem = s.sem := rfl
@[simp] theorem setTrip_gsc (f : FeederNo) (r : Option TripRecord) (k : Nat) : (s.setTrip f r k).gsc = s.gsc := rfl
@[simp] theorem setTrip_vtr (f : FeederNo) (r : Option TripRecord) (k : Nat) : (s.setTrip f r k).vtr = s.vtr := rfl
@[simp] theorem setTrip_ptc (f : FeederNo) (r : Option TripRecord) (k : Nat) : (s.setTrip f r k).ptc = s.ptc := rfl
@[simp] theorem setTrip_pending (f : FeederNo) (r : Option TripRecord) (k : Nat) : (s.setTrip f r k).pending = s.pending := rfl
@[simp] theorem setTrip_breaker (f : FeederNo) (r : Option TripRecord) (k : Nat) (f0 : FeederNo) : (s.setTrip f r k).breaker f0 = s.breaker f0 := rfl
@[simp] theorem setTrip_protection (f : FeederNo) (r : Option TripRecord) (k : Nat) (f0 : FeederNo) : (s.setTrip f r k).protection f0 = s.protection f0 := rfl
@[simp] theorem setTrip_sec (f : FeederNo) (r : Option TripRecord) (k : Nat) (c0 : SectionNo) : (s.setTrip f r k).sec c0 = s.sec c0 := rfl
@[simp] theorem setTrip_gate (f : FeederNo) (r : Option TripRecord) (k : Nat) (g0 : GateNo) : (s.setTrip f r k).gate g0 = s.gate g0 := rfl
@[simp] theorem setTrip_point (f : FeederNo) (r : Option TripRecord) (k : Nat) (p0 : PointNo) : (s.setTrip f r k).point p0 = s.point p0 := rfl
@[simp] theorem setTrip_vehicle (f : FeederNo) (r : Option TripRecord) (k : Nat) (n0 : SlotNo) : (s.setTrip f r k).vehicle n0 = s.vehicle n0 := rfl
@[simp] theorem setTrip_queue (f : FeederNo) (r : Option TripRecord) (k : Nat) (a0 : SegmentNo) : (s.setTrip f r k).queue a0 = s.queue a0 := rfl
@[simp] theorem setTrip_untracked (f : FeederNo) (r : Option TripRecord) (k : Nat) (a0 : SegmentNo) : (s.setTrip f r k).untracked a0 = s.untracked a0 := rfl
@[simp] theorem setTrip_injection (f : FeederNo) (r : Option TripRecord) (k : Nat) (f0 : FeederNo) : (s.setTrip f r k).injection f0 = s.injection f0 := rfl
@[simp] theorem setTrip_locks (f : FeederNo) (r : Option TripRecord) (k : Nat) (c0 : SectionNo) : (s.setTrip f r k).locks c0 = s.locks c0 := rfl
@[simp] theorem setTrip_lockout (f : FeederNo) (r : Option TripRecord) (k : Nat) (f0 : FeederNo) : (s.setTrip f r k).lockout f0 = s.lockout f0 := rfl
@[simp] theorem setTrip_topo (f : FeederNo) (r : Option TripRecord) (k : Nat) : (s.setTrip f r k).topo = s.topo := rfl
@[simp] theorem setTrip_feederSet (f : FeederNo) (r : Option TripRecord) (k : Nat) (f0 : FeederNo) : (s.setTrip f r k).feederSet f0 = s.feederSet f0 := rfl
@[simp] theorem setTrip_sectionSet (f : FeederNo) (r : Option TripRecord) (k : Nat) (c0 : SectionNo) : (s.setTrip f r k).sectionSet c0 = s.sectionSet c0 := rfl
@[simp] theorem setTrip_gateSet (f : FeederNo) (r : Option TripRecord) (k : Nat) (g0 : GateNo) : (s.setTrip f r k).gateSet g0 = s.gateSet g0 := rfl
@[simp] theorem setTrip_pointSet (f : FeederNo) (r : Option TripRecord) (k : Nat) (p0 : PointNo) : (s.setTrip f r k).pointSet p0 = s.pointSet p0 := rfl

/-! ### raise -/

@[simp] theorem raise_now (n : NoticeBody) : (s.raise n).now = s.now := by unfold raise; dsimp only; split <;> rfl
@[simp] theorem raise_powered (n : NoticeBody) : (s.raise n).powered = s.powered := by unfold raise; dsimp only; split <;> rfl
@[simp] theorem raise_pins (n : NoticeBody) : (s.raise n).pins = s.pins := by unfold raise; dsimp only; split <;> rfl
@[simp] theorem raise_sst (n : NoticeBody) : (s.raise n).sst = s.sst := by unfold raise; dsimp only; split <;> rfl
@[simp] theorem raise_ret (n : NoticeBody) : (s.raise n).ret = s.ret := by unfold raise; dsimp only; split <;> rfl
@[simp] theorem raise_scp (n : NoticeBody) : (s.raise n).scp = s.scp := by unfold raise; dsimp only; split <;> rfl
@[simp] theorem raise_fpu (n : NoticeBody) : (s.raise n).fpu = s.fpu := by unfold raise; dsimp only; split <;> rfl
@[simp] theorem raise_bsq (n : NoticeBody) : (s.raise n).bsq = s.bsq := by unfold raise; dsimp only; split <;> rfl
@[simp] theorem raise_sem (n : NoticeBody) : (s.raise n).sem = s.sem := by unfold raise; dsimp only; split <;> rfl
@[simp] theorem raise_gsc (n : NoticeBody) : (s.raise n).gsc = s.gsc := by unfold raise; dsimp only; split <;> rfl
@[simp] theorem raise_vtr (n : NoticeBody) : (s.raise n).vtr = s.vtr := by unfold raise; dsimp only; split <;> rfl
@[simp] theorem raise_ptc (n : NoticeBody) : (s.raise n).ptc = s.ptc := by unfold raise; dsimp only; split <;> rfl
@[simp] theorem raise_pending (n : NoticeBody) : (s.raise n).pending = s.pending := by unfold raise; dsimp only; split <;> rfl
@[simp] theorem raise_breaker (n : NoticeBody) (f0 : FeederNo) : (s.raise n).breaker f0 = s.breaker f0 := by unfold raise; dsimp only; split <;> rfl
@[simp] theorem raise_protection (n : NoticeBody) (f0 : FeederNo) : (s.raise n).protection f0 = s.protection f0 := by unfold raise; dsimp only; split <;> rfl
@[simp] theorem raise_sec (n : NoticeBody) (c0 : SectionNo) : (s.raise n).sec c0 = s.sec c0 := by unfold raise; dsimp only; split <;> rfl
@[simp] theorem raise_gate (n : NoticeBody) (g0 : GateNo) : (s.raise n).gate g0 = s.gate g0 := by unfold raise; dsimp only; split <;> rfl
@[simp] theorem raise_point (n : NoticeBody) (p0 : PointNo) : (s.raise n).point p0 = s.point p0 := by unfold raise; dsimp only; split <;> rfl
@[simp] theorem raise_vehicle (n : NoticeBody) (n0 : SlotNo) : (s.raise n).vehicle n0 = s.vehicle n0 := by unfold raise; dsimp only; split <;> rfl
@[simp] theorem raise_queue (n : NoticeBody) (a0 : SegmentNo) : (s.raise n).queue a0 = s.queue a0 := by unfold raise; dsimp only; split <;> rfl
@[simp] theorem raise_untracked (n : NoticeBody) (a0 : SegmentNo) : (s.raise n).untracked a0 = s.untracked a0 := by unfold raise; dsimp only; split <;> rfl
@[simp] theorem raise_injection (n : NoticeBody) (f0 : FeederNo) : (s.raise n).injection f0 = s.injection f0 := by unfold raise; dsimp only; split <;> rfl
@[simp] theorem raise_locks (n : NoticeBody) (c0 : SectionNo) : (s.raise n).locks c0 = s.locks c0 := by unfold raise; dsimp only; split <;> rfl
@[simp] theorem raise_lockout (n : NoticeBody) (f0 : FeederNo) : (s.raise n).lockout f0 = s.lockout f0 := by unfold raise; dsimp only; split <;> rfl
@[simp] theorem raise_trip (n : NoticeBody) (f0 : FeederNo) : (s.raise n).trip f0 = s.trip f0 := by unfold raise; dsimp only; split <;> rfl
@[simp] theorem raise_tripCount (n : NoticeBody) (f0 : FeederNo) : (s.raise n).tripCount f0 = s.tripCount f0 := by unfold raise; dsimp only; split <;> rfl
@[simp] theorem raise_topo (n : NoticeBody) : (s.raise n).topo = s.topo := by unfold raise; dsimp only; split <;> rfl
@[simp] theorem raise_feederSet (n : NoticeBody) (f0 : FeederNo) : (s.raise n).feederSet f0 = s.feederSet f0 := by unfold raise; dsimp only; split <;> rfl
@[simp] theorem raise_sectionSet (n : NoticeBody) (c0 : SectionNo) : (s.raise n).sectionSet c0 = s.sectionSet c0 := by unfold raise; dsimp only; split <;> rfl
@[simp] theorem raise_gateSet (n : NoticeBody) (g0 : GateNo) : (s.raise n).gateSet g0 = s.gateSet g0 := by unfold raise; dsimp only; split <;> rfl
@[simp] theorem raise_pointSet (n : NoticeBody) (p0 : PointNo) : (s.raise n).pointSet p0 = s.pointSet p0 := by unfold raise; dsimp only; split <;> rfl

/-! ### transmit -/

@[simp] theorem transmit_now : s.transmit.now = s.now := rfl
@[simp] theorem transmit_powered : s.transmit.powered = s.powered := rfl
@[simp] theorem transmit_pins : s.transmit.pins = s.pins := rfl
@[simp] theorem transmit_sst : s.transmit.sst = s.sst := rfl
@[simp] theorem transmit_ret : s.transmit.ret = s.ret := rfl
@[simp] theorem transmit_scp : s.transmit.scp = s.scp := rfl
@[simp] theorem transmit_fpu : s.transmit.fpu = s.fpu := rfl
@[simp] theorem transmit_bsq : s.transmit.bsq = s.bsq := rfl
@[simp] theorem transmit_sem : s.transmit.sem = s.sem := rfl
@[simp] theorem transmit_gsc : s.transmit.gsc = s.gsc := rfl
@[simp] theorem transmit_vtr : s.transmit.vtr = s.vtr := rfl
@[simp] theorem transmit_ptc : s.transmit.ptc = s.ptc := rfl
@[simp] theorem transmit_pending : s.transmit.pending = s.pending := rfl
@[simp] theorem transmit_breaker (f0 : FeederNo) : s.transmit.breaker f0 = s.breaker f0 := rfl
@[simp] theorem transmit_protection (f0 : FeederNo) : s.transmit.protection f0 = s.protection f0 := rfl
@[simp] theorem transmit_sec (c0 : SectionNo) : s.transmit.sec c0 = s.sec c0 := rfl
@[simp] theorem transmit_gate (g0 : GateNo) : s.transmit.gate g0 = s.gate g0 := rfl
@[simp] theorem transmit_point (p0 : PointNo) : s.transmit.point p0 = s.point p0 := rfl
@[simp] theorem transmit_vehicle (n0 : SlotNo) : s.transmit.vehicle n0 = s.vehicle n0 := rfl
@[simp] theorem transmit_queue (a0 : SegmentNo) : s.transmit.queue a0 = s.queue a0 := rfl
@[simp] theorem transmit_untracked (a0 : SegmentNo) : s.transmit.untracked a0 = s.untracked a0 := rfl
@[simp] theorem transmit_injection (f0 : FeederNo) : s.transmit.injection f0 = s.injection f0 := rfl
@[simp] theorem transmit_locks (c0 : SectionNo) : s.transmit.locks c0 = s.locks c0 := rfl
@[simp] theorem transmit_lockout (f0 : FeederNo) : s.transmit.lockout f0 = s.lockout f0 := rfl
@[simp] theorem transmit_trip (f0 : FeederNo) : s.transmit.trip f0 = s.trip f0 := rfl
@[simp] theorem transmit_tripCount (f0 : FeederNo) : s.transmit.tripCount f0 = s.tripCount f0 := rfl
@[simp] theorem transmit_topo : s.transmit.topo = s.topo := rfl
@[simp] theorem transmit_feederSet (f0 : FeederNo) : s.transmit.feederSet f0 = s.feederSet f0 := rfl
@[simp] theorem transmit_sectionSet (c0 : SectionNo) : s.transmit.sectionSet c0 = s.sectionSet c0 := rfl
@[simp] theorem transmit_gateSet (g0 : GateNo) : s.transmit.gateSet g0 = s.gateSet g0 := rfl
@[simp] theorem transmit_pointSet (p0 : PointNo) : s.transmit.pointSet p0 = s.pointSet p0 := rfl

/-! ### What a setter has written, and what it has not -/

/-- Reading a vector after a set at a place counted by Fin. -/
theorem getFin_set {α : Type} {n : Nat} (v : Vector α n) (i j : Fin n) (x : α) :
    (v.set i x)[j] = if j = i then x else v[j] := by
  simp only [Fin.getElem_fin, Vector.getElem_set, Fin.ext_iff]
  by_cases h : i.val = j.val
  · simp [h]
  · simp [h, Ne.symm h]

theorem setBreaker_breaker (f : FeederNo) (b : Breaker) (g : FeederNo) : (s.setBreaker f b).breaker g = if g = f then b else s.breaker g := getFin_set ..
@[simp] theorem setBreaker_breaker_self (f : FeederNo) (b : Breaker) : (s.setBreaker f b).breaker f = b := by simp [setBreaker_breaker]
theorem setBreaker_breaker_ne (f : FeederNo) (b : Breaker) {g : FeederNo} (h : g ≠ f) : (s.setBreaker f b).breaker g = s.breaker g := by simp [setBreaker_breaker, h]
theorem setProtection_protection (f : FeederNo) (r : Protection) (g : FeederNo) : (s.setProtection f r).protection g = if g = f then r else s.protection g := getFin_set ..
@[simp] theorem setProtection_protection_self (f : FeederNo) (r : Protection) : (s.setProtection f r).protection f = r := by simp [setProtection_protection]
theorem setProtection_protection_ne (f : FeederNo) (r : Protection) {g : FeederNo} (h : g ≠ f) : (s.setProtection f r).protection g = s.protection g := by simp [setProtection_protection, h]
theorem setSec_sec (f : SectionNo) (r : SectionRec) (g : SectionNo) : (s.setSec f r).sec g = if g = f then r else s.sec g := getFin_set ..
@[simp] theorem setSec_sec_self (f : SectionNo) (r : SectionRec) : (s.setSec f r).sec f = r := by simp [setSec_sec]
theorem setSec_sec_ne (f : SectionNo) (r : SectionRec) {g : SectionNo} (h : g ≠ f) : (s.setSec f r).sec g = s.sec g := by simp [setSec_sec, h]
theorem setGate_gate (f : GateNo) (r : GateRec) (g : GateNo) : (s.setGate f r).gate g = if g = f then r else s.gate g := getFin_set ..
@[simp] theorem setGate_gate_self (f : GateNo) (r : GateRec) : (s.setGate f r).gate f = r := by simp [setGate_gate]
theorem setGate_gate_ne (f : GateNo) (r : GateRec) {g : GateNo} (h : g ≠ f) : (s.setGate f r).gate g = s.gate g := by simp [setGate_gate, h]
theorem setPoint_point (f : PointNo) (r : PointRec) (g : PointNo) : (s.setPoint f r).point g = if g = f then r else s.point g := getFin_set ..
@[simp] theorem setPoint_point_self (f : PointNo) (r : PointRec) : (s.setPoint f r).point f = r := by simp [setPoint_point]
theorem setPoint_point_ne (f : PointNo) (r : PointRec) {g : PointNo} (h : g ≠ f) : (s.setPoint f r).point g = s.point g := by simp [setPoint_point, h]
theorem setVehicle_vehicle (f : SlotNo) (v : Option Vehicle) (g : SlotNo) : (s.setVehicle f v).vehicle g = if g = f then v else s.vehicle g := getFin_set ..
@[simp] theorem setVehicle_vehicle_self (f : SlotNo) (v : Option Vehicle) : (s.setVehicle f v).vehicle f = v := by simp [setVehicle_vehicle]
theorem setVehicle_vehicle_ne (f : SlotNo) (v : Option Vehicle) {g : SlotNo} (h : g ≠ f) : (s.setVehicle f v).vehicle g = s.vehicle g := by simp [setVehicle_vehicle, h]
theorem setQueue_queue (f : SegmentNo) (l : List SlotNo) (g : SegmentNo) : (s.setQueue f l).queue g = if g = f then l else s.queue g := getFin_set ..
@[simp] theorem setQueue_queue_self (f : SegmentNo) (l : List SlotNo) : (s.setQueue f l).queue f = l := by simp [setQueue_queue]
theorem setQueue_queue_ne (f : SegmentNo) (l : List SlotNo) {g : SegmentNo} (h : g ≠ f) : (s.setQueue f l).queue g = s.queue g := by simp [setQueue_queue, h]
theorem setUntracked_untracked (f : SegmentNo) (k : Nat) (g : SegmentNo) : (s.setUntracked f k).untracked g = if g = f then k else s.untracked g := getFin_set ..
@[simp] theorem setUntracked_untracked_self (f : SegmentNo) (k : Nat) : (s.setUntracked f k).untracked f = k := by simp [setUntracked_untracked]
theorem setUntracked_untracked_ne (f : SegmentNo) (k : Nat) {g : SegmentNo} (h : g ≠ f) : (s.setUntracked f k).untracked g = s.untracked g := by simp [setUntracked_untracked, h]
theorem setInjection_injection (f : FeederNo) (j : Injection) (g : FeederNo) : (s.setInjection f j).injection g = if g = f then j else s.injection g := getFin_set ..
@[simp] theorem setInjection_injection_self (f : FeederNo) (j : Injection) : (s.setInjection f j).injection f = j := by simp [setInjection_injection]
theorem setInjection_injection_ne (f : FeederNo) (j : Injection) {g : FeederNo} (h : g ≠ f) : (s.setInjection f j).injection g = s.injection g := by simp [setInjection_injection, h]
theorem setLocks_locks (f : SectionNo) (l : List Nat) (g : SectionNo) : (s.setLocks f l).locks g = if g = f then l else s.locks g := getFin_set ..
@[simp] theorem setLocks_locks_self (f : SectionNo) (l : List Nat) : (s.setLocks f l).locks f = l := by simp [setLocks_locks]
theorem setLocks_locks_ne (f : SectionNo) (l : List Nat) {g : SectionNo} (h : g ≠ f) : (s.setLocks f l).locks g = s.locks g := by simp [setLocks_locks, h]
theorem setLockout_lockout (f : FeederNo) (w : Option LockoutCause) (g : FeederNo) : (s.setLockout f w).lockout g = if g = f then w else s.lockout g := getFin_set ..
@[simp] theorem setLockout_lockout_self (f : FeederNo) (w : Option LockoutCause) : (s.setLockout f w).lockout f = w := by simp [setLockout_lockout]
theorem setLockout_lockout_ne (f : FeederNo) (w : Option LockoutCause) {g : FeederNo} (h : g ≠ f) : (s.setLockout f w).lockout g = s.lockout g := by simp [setLockout_lockout, h]
theorem setTrip_trip (f : FeederNo) (r : Option TripRecord) (k : Nat) (g : FeederNo) : (s.setTrip f r k).trip g = if g = f then r else s.trip g := getFin_set ..
theorem setTrip_tripCount (f : FeederNo) (r : Option TripRecord) (k : Nat) (g : FeederNo) : (s.setTrip f r k).tripCount g = if g = f then k else s.tripCount g := getFin_set ..
@[simp] theorem setTrip_trip_self (f : FeederNo) (r : Option TripRecord) (k : Nat) : (s.setTrip f r k).trip f = r := by simp [setTrip_trip]
@[simp] theorem setTrip_tripCount_self (f : FeederNo) (r : Option TripRecord) (k : Nat) : (s.setTrip f r k).tripCount f = k := by simp [setTrip_tripCount]

end Sys2Proof.Machine.State
end

