-- ==== Sys2Proof/Laws/Moves.lean ====
section
/-! SUPPORT. The frame of every shared operation, said once: which parts of the state it can change, and that on the link it only
offers notices. A later proof about a command cites these and unfolds no operation. -/

namespace Sys2Proof.Machine

/-! ## The order of frames -/

theorem Part.same_refl (s : State) (p : Part) : Part.same s s p := by cases p <;> simp [Part.same]

theorem Part.same_trans {s t u : State} {p : Part} (h : Part.same s t p) (h' : Part.same t u p) : Part.same s u p := by
  cases p <;> simp_all [Part.same]
  case settings => rw [← h, ← h']

theorem KeptBut.refl (l : List Part) (s : State) : KeptBut l s s := fun p _ => Part.same_refl s p

theorem KeptBut.trans {l : List Part} {s t u : State} (h : KeptBut l s t) (h' : KeptBut l t u) : KeptBut l s u :=
  fun p hp => Part.same_trans (h p hp) (h' p hp)

theorem KeptBut.mono {l m : List Part} {s t : State} (h : KeptBut l s t) (hm : ∀ p ∈ l, p ∈ m) : KeptBut m s t :=
  fun p hp => h p fun hl => hp (hm p hl)

theorem Lnk.says_append (l : Lnk) (now : Time) (bs cs : List NoticeBody) : l.says now (bs ++ cs) = (l.says now bs).says now cs := by
  simp [Lnk.says]

theorem Moves.refl {l : List Part} {s : State} : Moves l s s := ⟨.refl _ s, rfl, [], rfl⟩

/-- A frame is carried over one operation more. -/
theorem Moves.onto {m l : List Part} {s t u : State} (h' : Moves m t u) (h : Moves l s t) (hm : ∀ p ∈ m, p ∈ l) : Moves l s u := by
  obtain ⟨bs, hb⟩ := h.noted
  obtain ⟨cs, hc⟩ := h'.noted
  refine ⟨h.kept.trans (h'.kept.mono fun p hp => ?_), h'.now.trans h.now, bs ++ cs, ?_⟩
  · rcases List.mem_cons.mp hp with rfl | hp
    · exact List.mem_cons_self
    · exact List.mem_cons_of_mem _ (hm p hp)
  · rw [hc, hb, h.now, Lnk.says_append]

theorem Moves.mono {m l : List Part} {s t : State} (h : Moves m s t) (hm : ∀ p ∈ m, p ∈ l) : Moves l s t := h.onto .refl hm

theorem Moves.ite {l : List Part} {s t u : State} {c : Prop} [Decidable c] (h : Moves l s t) (h' : Moves l s u) :
    Moves l s (if c then t else u) := by
  split
  · exact h
  · exact h'

theorem Moves.foldl {α : Type} {l : List Part} {g : State → α → State} (h : ∀ s x, Moves l s (g s x)) (xs : List α) (s : State) :
    Moves l s (xs.foldl g s) := by
  induction xs generalizing s with
  | nil => exact .refl
  | cons x xs ih => exact (ih _).onto (h s x) fun _ hp => hp

variable (s : State)

/-! ## Setters and notices -/

theorem raise_says (n : NoticeBody) : (s.raise n).lnk = s.lnk.says s.now [n] := by
  simp only [State.raise, Lnk.says, List.foldl_cons, List.foldl_nil]
  split <;> rfl

theorem raise_moves (n : NoticeBody) : Moves [] s (s.raise n) :=
  ⟨fun p hp => by cases p <;> simp_all [Part.same], by simp, [n], raise_says s n⟩


theorem setBreaker_moves (f : FeederNo) (b : Breaker) : Moves [.breakers] s (s.setBreaker f b) :=
  ⟨fun p hp => by cases p <;> simp_all [Part.same, State.setBreaker], rfl, [], rfl⟩

theorem setProtection_moves (f : FeederNo) (r : Protection) : Moves [.protection] s (s.setProtection f r) :=
  ⟨fun p hp => by cases p <;> simp_all [Part.same, State.setProtection], rfl, [], rfl⟩

theorem setSec_moves (c : SectionNo) (r : SectionRec) : Moves [.sections] s (s.setSec c r) :=
  ⟨fun p hp => by cases p <;> simp_all [Part.same, State.setSec], rfl, [], rfl⟩

theorem setGate_moves (g : GateNo) (r : GateRec) : Moves [.gates] s (s.setGate g r) :=
  ⟨fun p hp => by cases p <;> simp_all [Part.same, State.setGate], rfl, [], rfl⟩

theorem setPoint_moves (q : PointNo) (r : PointRec) : Moves [.points] s (s.setPoint q r) :=
  ⟨fun p hp => by cases p <;> simp_all [Part.same, State.setPoint], rfl, [], rfl⟩

theorem setVehicle_moves (n : SlotNo) (v : Option Vehicle) : Moves [.vehicles] s (s.setVehicle n v) :=
  ⟨fun p hp => by cases p <;> simp_all [Part.same, State.setVehicle], rfl, [], rfl⟩

theorem setQueue_moves (g : SegmentNo) (q : List SlotNo) : Moves [.vehicles] s (s.setQueue g q) :=
  ⟨fun p hp => by cases p <;> simp_all [Part.same, State.setQueue], rfl, [], rfl⟩

theorem setUntracked_moves (g : SegmentNo) (k : Nat) : Moves [.vehicles] s (s.setUntracked g k) :=
  ⟨fun p hp => by cases p <;> simp_all [Part.same, State.setUntracked], rfl, [], rfl⟩

theorem setInjection_moves (f : FeederNo) (j : Injection) : Moves [.scan] s (s.setInjection f j) :=
  ⟨fun p hp => by cases p <;> simp_all [Part.same, State.setInjection], rfl, [], rfl⟩

theorem setLocks_moves (c : SectionNo) (l : List Nat) : Moves [.locks] s (s.setLocks c l) :=
  ⟨fun p hp => by cases p <;> simp_all [Part.same, State.setLocks], rfl, [], rfl⟩

theorem setLockout_moves (f : FeederNo) (w : Option LockoutCause) : Moves [.lockouts] s (s.setLockout f w) :=
  ⟨fun p hp => by cases p <;> simp_all [Part.same, State.setLockout], rfl, [], rfl⟩

theorem setTrip_moves (f : FeederNo) (r : Option TripRecord) (k : Nat) : Moves [.trips] s (s.setTrip f r k) :=
  ⟨fun p hp => by cases p <;> simp_all [Part.same, State.setTrip], rfl, [], rfl⟩

/-! ## Vehicle Tracker -/

theorem applyFault_moves (n : SlotNo) (e : FaultEvent) : Moves [.vehicles] s (s.applyFault n e) := by
  unfold State.applyFault
  dsimp only
  repeat' split
  all_goals with_reducible repeat' (first | apply Moves.onto (raise_moves _ _) | apply Moves.onto (setVehicle_moves _ _ _) | apply Moves.ite | apply Moves.refl)
  all_goals decide

theorem modVehicle_moves (n : SlotNo) (k : Vehicle → Vehicle) : Moves [.vehicles] s (s.modVehicle n k) := by
  unfold State.modVehicle
  all_goals with_reducible repeat' (first | apply Moves.onto (setVehicle_moves _ _ _) | apply Moves.refl)
  all_goals decide

theorem vtr_moves (v : Vtr) : Moves [.vehicles] s { s with vtr := v } :=
  ⟨fun p hp => by cases p <;> simp_all [Part.same], rfl, [], rfl⟩

theorem releaseGate_moves (g : GateNo) : Moves [.vehicles] s (s.releaseGate g) := vtr_moves s _

theorem takeGate_moves (n : SlotNo) (g : GateNo) : Moves [.vehicles] s (s.takeGate n g) := by
  unfold State.takeGate
  all_goals with_reducible repeat' (first | apply Moves.onto (modVehicle_moves _ _ _) | apply Moves.onto (releaseGate_moves _ _) | apply Moves.refl)
  all_goals decide

theorem unqueue_moves (g : SegmentNo) (n : SlotNo) : Moves [.vehicles] s (s.unqueue g n) := by
  unfold State.unqueue
  all_goals with_reducible repeat' (first | apply Moves.onto (setQueue_moves _ _ _) | apply Moves.refl)
  all_goals decide

theorem zoneForget_moves (g : SegmentNo) (n : SlotNo) : Moves [.points] s (s.zoneForget g n) := by
  unfold State.zoneForget
  repeat' split
  all_goals with_reducible repeat' (first | apply Moves.onto (setPoint_moves _ _ _) | apply Moves.refl)
  all_goals decide

theorem freeVehicle_moves (n : SlotNo) : Moves [.vehicles, .points] s (s.freeVehicle n) := by
  unfold State.freeVehicle
  repeat' split
  all_goals with_reducible repeat' (first | apply Moves.onto (setVehicle_moves _ _ _) | apply Moves.onto (unqueue_moves _ _ _) | apply Moves.onto (zoneForget_moves _ _ _) | apply Moves.refl)
  all_goals decide

theorem wantRoom_moves (g : SegmentNo) (why : NoRoom) (freed : Option Candidate) : Moves [.vehicles] s (s.wantRoom g why freed) := by
  unfold State.wantRoom
  dsimp only
  all_goals with_reducible repeat' (first | apply Moves.onto (raise_moves _ _) | apply Moves.onto (setUntracked_moves _ _ _) | apply Moves.refl)
  all_goals decide

theorem create_moves (g : SegmentNo) (k : Nat) (fleet : Option Nat) (flag : CurrentFlag) : Moves [.vehicles] s (s.create g k fleet flag).2 := by
  unfold State.create
  repeat' split
  all_goals try dsimp only
  all_goals with_reducible repeat' (first | apply Moves.onto (setVehicle_moves _ _ _) | apply Moves.onto (setQueue_moves _ _ _) | apply Moves.onto (wantRoom_moves _ _ _ _) | apply Moves.ite | apply Moves.refl)
  all_goals decide

/-- `create_moves` for a state that a match has named. -/
theorem create_at {g : SegmentNo} {k : Nat} {fleet : Option Nat} {flag : CurrentFlag} {o : Option SlotNo} {t : State}
    (h : s.create g k fleet flag = (o, t)) : Moves [.vehicles] s t := by
  simpa [h] using create_moves s g k fleet flag

theorem claimUntracked_moves (g : SegmentNo) : Moves [.vehicles] s (s.claimUntracked g) := by
  unfold State.claimUntracked
  all_goals with_reducible repeat' (first | apply Moves.onto (setUntracked_moves _ _ _) | apply Moves.refl)
  all_goals decide

theorem completeUntracked_moves (g : GateNo) (src : SegmentNo) (dst : Option SegmentNo) (flag : CurrentFlag) : Moves [.vehicles] s (s.completeUntracked g src dst flag).2 := by
  unfold State.completeUntracked
  dsimp only
  repeat' split
  all_goals try dsimp only
  all_goals with_reducible repeat' (first | apply Moves.onto (raise_moves _ _) | apply Moves.onto (setUntracked_moves _ _ _) | apply Moves.onto (create_moves _ _ _ _ _) | apply Moves.onto (claimUntracked_moves _ _) | apply Moves.ite | apply Moves.refl | refine Moves.onto (create_at _ ‹_›) ?_ ?_)
  all_goals decide

theorem completeMove_moves (src : SegmentNo) (n : SlotNo) (rest : List SlotNo) (dst : Option SegmentNo) (flag : CurrentFlag) : Moves [.vehicles] s (s.completeMove src n rest dst flag).2 := by
  unfold State.completeMove
  dsimp only
  repeat' split
  all_goals with_reducible repeat' (first | apply Moves.onto (setVehicle_moves _ _ _) | apply Moves.onto (setQueue_moves _ _ _) | apply Moves.onto (wantRoom_moves _ _ _ _) | apply Moves.ite | apply Moves.refl)
  all_goals decide

theorem complete_moves (g : GateNo) (flag : CurrentFlag) (missing : Missing) (t : Time) : Moves [.vehicles] s (s.complete g flag missing t).2 := by
  unfold State.complete
  dsimp only
  repeat' split
  all_goals try dsimp only
  all_goals with_reducible repeat' (first | apply Moves.onto (raise_moves _ _) | apply Moves.onto (releaseGate_moves _ _) | apply Moves.onto (create_moves _ _ _ _ _) | apply Moves.onto (completeUntracked_moves _ _ _ _ _) | apply Moves.onto (completeMove_moves _ _ _ _ _ _) | apply Moves.refl | refine Moves.onto (create_at _ ‹_›) ?_ ?_)
  all_goals decide

/-- `complete_moves` for a state that a match has named. -/
theorem complete_at {g : GateNo} {flag : CurrentFlag} {missing : Missing} {e : Time} {o : Passed} {t : State}
    (h : s.complete g flag missing e = (o, t)) : Moves [.vehicles] s t := by
  simpa [h] using complete_moves s g flag missing e

theorem answerEntry_moves (p : PointNo) (n : SlotNo) : Moves [.vehicles] s (s.answerEntry p n) := by
  unfold State.answerEntry
  dsimp only
  repeat' split
  all_goals with_reducible repeat' (first | apply Moves.onto (modVehicle_moves _ _ _) | apply Moves.onto (releaseGate_moves _ _) | apply Moves.onto (takeGate_moves _ _ _) | apply Moves.ite | apply Moves.refl)
  all_goals decide

theorem entryUnseen_moves (p : PointNo) (flag : CurrentFlag) : Moves [.vehicles] s (s.entryUnseen p flag).2 := by
  unfold State.entryUnseen
  dsimp only
  repeat' split
  all_goals try dsimp only
  all_goals with_reducible repeat' (first | apply Moves.onto (raise_moves _ _) | apply Moves.onto (create_moves _ _ _ _ _) | apply Moves.onto (claimUntracked_moves _ _) | apply Moves.ite | apply Moves.refl | refine Moves.onto (create_at _ ‹_›) ?_ ?_)
  all_goals decide

theorem confirm_moves (n : SlotNo) : Moves [.vehicles] s (s.confirm n) := by
  unfold State.confirm
  all_goals with_reducible repeat' (first | apply Moves.onto (modVehicle_moves _ _ _) | apply Moves.refl)
  all_goals decide

theorem entryNamed_moves (p : PointNo) (e : SlotNo) (fleet : Nat) : Moves [.vehicles] s (s.entryNamed p e fleet) := by
  unfold State.entryNamed
  dsimp only
  repeat' split
  all_goals with_reducible repeat' (first | apply Moves.onto (raise_moves _ _) | apply Moves.onto (applyFault_moves _ _ _) | apply Moves.onto (modVehicle_moves _ _ _) | apply Moves.onto (confirm_moves _ _) | apply Moves.refl)
  all_goals decide

theorem entrySwap_moves (p : PointNo) (e : SlotNo) (n : SlotNo) : Moves [.vehicles] s (s.entrySwap p e n) := by
  unfold State.entrySwap
  dsimp only
  all_goals with_reducible repeat' (first | apply Moves.onto (raise_moves _ _) | apply Moves.onto (setQueue_moves _ _ _) | apply Moves.onto (confirm_moves _ _) | apply Moves.refl)
  all_goals decide

theorem entryMove_moves (p : PointNo) (fleet : Nat) (n : SlotNo) (v : Vehicle) : Moves [.vehicles, .points] s (s.entryMove p fleet n v).2 := by
  unfold State.entryMove
  dsimp only
  repeat' split
  all_goals with_reducible repeat' (first | apply Moves.onto (raise_moves _ _) | apply Moves.onto (setVehicle_moves _ _ _) | apply Moves.onto (setQueue_moves _ _ _) | apply Moves.onto (applyFault_moves _ _ _) | apply Moves.onto (unqueue_moves _ _ _) | apply Moves.onto (zoneForget_moves _ _ _) | apply Moves.onto (wantRoom_moves _ _ _ _) | apply Moves.onto (claimUntracked_moves _ _) | apply Moves.onto (confirm_moves _ _) | apply Moves.ite | apply Moves.refl)
  all_goals decide

theorem entryCreate_moves (p : PointNo) (fleet : Nat) (flag : CurrentFlag) : Moves [.vehicles] s (s.entryCreate p fleet flag).2 := by
  unfold State.entryCreate
  dsimp only
  repeat' split
  all_goals try dsimp only
  all_goals with_reducible repeat' (first | apply Moves.onto (raise_moves _ _) | apply Moves.onto (create_moves _ _ _ _ _) | apply Moves.onto (claimUntracked_moves _ _) | apply Moves.ite | apply Moves.refl | refine Moves.onto (create_at _ ‹_›) ?_ ?_)
  all_goals decide

theorem reconcile_moves (p : PointNo) (fleet : Nat) (flag : CurrentFlag) : Moves [.vehicles, .points] s (s.reconcile p fleet flag).2 := by
  unfold State.reconcile
  dsimp only
  repeat' split
  all_goals with_reducible repeat' (first | apply Moves.onto (confirm_moves _ _) | apply Moves.onto (entryNamed_moves _ _ _ _) | apply Moves.onto (entrySwap_moves _ _ _ _) | apply Moves.onto (entryMove_moves _ _ _ _ _) | apply Moves.onto (entryCreate_moves _ _ _ _) | apply Moves.ite | apply Moves.refl)
  all_goals decide

theorem vehicleAtEntry_moves (p : PointNo) (bound : Option Nat) (flag : CurrentFlag) : Moves [.vehicles, .points] s (s.vehicleAtEntry p bound flag).2 := by
  unfold State.vehicleAtEntry
  dsimp only
  repeat' split
  all_goals try dsimp only
  all_goals with_reducible repeat' (first | apply Moves.onto (answerEntry_moves _ _ _) | apply Moves.onto (entryUnseen_moves _ _ _) | apply Moves.onto (reconcile_moves _ _ _ _) | apply Moves.refl)
  all_goals decide

/-- `vehicleAtEntry_moves` for a state that a match has named. -/
theorem vehicleAtEntry_at {p : PointNo} {bound : Option Nat} {flag : CurrentFlag} {o : Option SlotNo} {t : State}
    (h : s.vehicleAtEntry p bound flag = (o, t)) : Moves [.vehicles, .points] s t := by
  simpa [h] using vehicleAtEntry_moves s p bound flag

theorem attribute_moves (f : FeederNo) (c : SectionNo) (t : Time) : Moves [.vehicles] s (s.attribute f c t).2 := by
  unfold State.attribute
  dsimp only
  repeat' split
  all_goals with_reducible repeat' (first | apply Moves.onto (applyFault_moves _ _ _) | apply Moves.refl)
  all_goals decide

/-! ## Section Monitor -/

theorem raiseSectionState_moves (c : SectionNo) (t : Time) : Moves [] s (s.raiseSectionState c t) := by
  unfold State.raiseSectionState
  all_goals with_reducible repeat' (first | apply Moves.onto (raise_moves _ _) | apply Moves.refl)
  all_goals decide

theorem clearBackfeed_moves (c : SectionNo) (b : Bool) : Moves [.sections] s (s.clearBackfeed c b) := by
  unfold State.clearBackfeed
  repeat' split
  all_goals with_reducible repeat' (first | apply Moves.onto (raise_moves _ _) | apply Moves.onto (setSec_moves _ _ _) | apply Moves.ite | apply Moves.refl)
  all_goals decide

theorem clearSupplyLost_moves (c : SectionNo) (b : Bool) : Moves [.sections] s (s.clearSupplyLost c b) := by
  unfold State.clearSupplyLost
  repeat' split
  all_goals with_reducible repeat' (first | apply Moves.onto (raise_moves _ _) | apply Moves.onto (setSec_moves _ _ _) | apply Moves.ite | apply Moves.refl)
  all_goals decide

theorem refreshFed_moves (c : SectionNo) : Moves [.sections] s (s.refreshFed c) := by
  unfold State.refreshFed
  dsimp only
  repeat' split
  all_goals with_reducible repeat' (first | apply Moves.onto (setSec_moves _ _ _) | apply Moves.onto (clearBackfeed_moves _ _ _) | apply Moves.onto (clearSupplyLost_moves _ _ _) | apply Moves.ite | apply Moves.refl)
  all_goals decide

theorem zeroBackfeed_moves (c : SectionNo) : Moves [.sections] s (s.zeroBackfeed c) := by
  unfold State.zeroBackfeed
  all_goals with_reducible repeat' (first | apply Moves.onto (setSec_moves _ _ _) | apply Moves.refl)
  all_goals decide

theorem putBreaker_moves (f : FeederNo) (b : Breaker) : Moves [.breakers, .sections] s (s.putBreaker f b) := by
  unfold State.putBreaker
  dsimp only
  repeat' split
  all_goals with_reducible repeat' (first | apply Moves.onto (setBreaker_moves _ _ _) | apply Moves.onto (refreshFed_moves _ _) | apply Moves.onto (zeroBackfeed_moves _ _) | apply Moves.ite | apply Moves.refl)
  all_goals decide

theorem judgeEnergy_moves (c : SectionNo) (t : Time) : Moves [.sections] s (s.judgeEnergy c t) := by
  unfold State.judgeEnergy
  dsimp only
  repeat' split
  all_goals with_reducible repeat' (first | apply Moves.onto (setSec_moves _ _ _) | apply Moves.onto (raiseSectionState_moves _ _ _) | apply Moves.onto (clearBackfeed_moves _ _ _) | apply Moves.onto (clearSupplyLost_moves _ _ _) | apply Moves.ite | apply Moves.refl)
  all_goals decide

theorem enterBackfeed_moves (c : SectionNo) (t : Time) : Moves [.sections, .vehicles] s (s.enterBackfeed c t) := by
  unfold State.enterBackfeed
  dsimp only
  refine Moves.onto (raise_moves _ _) (Moves.onto (.foldl (fun s g => ?_) _ _)
    (Moves.onto (setSec_moves s _ _) .refl (by decide)) (m := [.vehicles]) (by decide)) (by decide)
  split
  · exact .refl
  · exact applyFault_moves _ _ _

theorem judgeBackfeed_moves (c : SectionNo) (v : Nat) (t : Time) : Moves [.sections, .vehicles] s (s.judgeBackfeed c v t) := by
  unfold State.judgeBackfeed
  dsimp only
  repeat' split
  all_goals with_reducible repeat' (first | apply Moves.onto (setSec_moves _ _ _) | apply Moves.onto (enterBackfeed_moves _ _ _) | apply Moves.ite | apply Moves.refl)
  all_goals decide

theorem judgeSupply_moves (c : SectionNo) (t : Time) : Moves [.sections] s (s.judgeSupply c t) := by
  unfold State.judgeSupply
  dsimp only
  repeat' split
  all_goals with_reducible repeat' (first | apply Moves.onto (raise_moves _ _) | apply Moves.onto (setSec_moves _ _ _) | apply Moves.ite | apply Moves.refl)
  all_goals decide

theorem sectionStep_moves (m : Measurement) (c : SectionNo) : Moves [.sections, .vehicles] s (State.sectionStep m s c) := by
  unfold State.sectionStep
  dsimp only
  repeat' split
  all_goals with_reducible repeat' (first | apply Moves.onto (judgeSupply_moves _ _ _) | apply Moves.onto (judgeBackfeed_moves _ _ _ _) | apply Moves.onto (judgeEnergy_moves _ _ _) | apply Moves.onto (setSec_moves _ _ _) | apply Moves.refl)
  all_goals decide

theorem sectionSteps_moves (m : Measurement) : Moves [.sections, .vehicles] s (s.sectionSteps m) :=
  .foldl (fun s x => sectionStep_moves s m x) _ _

/-! ## Breaker Sequencer -/

theorem lockOutOne_moves (f : FeederNo) (w : LockoutCause) : Moves [.breakers, .sections, .lockouts] s (s.lockOutOne f w) := by
  unfold State.lockOutOne
  dsimp only
  all_goals with_reducible repeat' (first | apply Moves.onto (raise_moves _ _) | apply Moves.onto (setLockout_moves _ _ _) | apply Moves.onto (putBreaker_moves _ _ _) | apply Moves.refl)
  all_goals decide

theorem lockOut_moves (f : FeederNo) (w : LockoutCause) : Moves [.breakers, .sections, .lockouts] s (s.lockOut f w) := by
  unfold State.lockOut
  dsimp only
  repeat' split
  all_goals with_reducible repeat' (first | apply Moves.onto (lockOutOne_moves _ _ _) | apply Moves.refl)
  all_goals decide

theorem toOpen_moves (f : FeederNo) : Moves [.breakers, .sections] s (s.toOpen f) := by
  unfold State.toOpen
  all_goals with_reducible repeat' (first | apply Moves.onto (putBreaker_moves _ _ _) | apply Moves.refl)
  all_goals decide

theorem expire_moves (f : FeederNo) : Moves [.breakers, .sections, .lockouts] s (s.expire f) := by
  unfold State.expire
  dsimp only
  repeat' split
  all_goals with_reducible repeat' (first | apply Moves.onto (putBreaker_moves _ _ _) | apply Moves.onto (lockOut_moves _ _ _) | apply Moves.ite | apply Moves.refl)
  all_goals decide

theorem toDeadTime_moves (f : FeederNo) : Moves [.breakers, .sections, .lockouts] s (s.toDeadTime f) := by
  unfold State.toDeadTime
  dsimp only
  repeat' split
  all_goals with_reducible repeat' (first | apply Moves.onto (putBreaker_moves _ _ _) | apply Moves.onto (lockOut_moves _ _ _) | apply Moves.ite | apply Moves.refl)
  all_goals decide

theorem backToDeadTime_moves (f : FeederNo) : Moves [.breakers, .sections, .lockouts] s (s.backToDeadTime f) := by
  unfold State.backToDeadTime
  dsimp only
  split
  all_goals with_reducible repeat' (first | apply Moves.onto (putBreaker_moves _ _ _) | apply Moves.onto (expire_moves _ _) | apply Moves.onto (lockOut_moves _ _ _) | apply Moves.refl)
  all_goals decide

theorem confirmOpen_moves (f : FeederNo) : Moves [.breakers, .sections, .lockouts] s (s.confirmOpen f) := by
  unfold State.confirmOpen
  dsimp only
  repeat' split
  all_goals with_reducible repeat' (first | apply Moves.onto (lockOut_moves _ _ _) | apply Moves.onto (toOpen_moves _ _) | apply Moves.onto (toDeadTime_moves _ _) | apply Moves.ite | apply Moves.refl)
  all_goals decide

theorem offerTrip_moves (f : FeederNo) (r : TripRecord) (k : Bool) : Moves [.trips] s (s.offerTrip f r k).2 := by
  unfold State.offerTrip
  dsimp only
  repeat' split
  all_goals with_reducible repeat' (first | apply Moves.onto (setTrip_moves _ _ _ _) | apply Moves.ite | apply Moves.refl)
  all_goals decide

theorem attributed_moves (f : FeederNo) (d : Decision) : Moves [.vehicles] s (s.attributed f d).2 := by
  unfold State.attributed
  repeat' split
  all_goals with_reducible repeat' (first | apply Moves.onto (attribute_moves _ _ _ _) | apply Moves.ite | apply Moves.refl)
  all_goals decide

theorem enterTrip_moves (f : FeederNo) (d : Decision) : Moves [.breakers, .sections, .vehicles, .trips] s (s.enterTrip f d) := by
  unfold State.enterTrip
  dsimp only
  all_goals with_reducible repeat' (first | apply Moves.onto (raise_moves _ _) | apply Moves.onto (setBreaker_moves _ _ _) | apply Moves.onto (putBreaker_moves _ _ _) | apply Moves.onto (offerTrip_moves _ _ _ _) | apply Moves.onto (attributed_moves _ _ _) | apply Moves.refl)
  all_goals decide

theorem takeTrip_moves (f : FeederNo) (d : Decision) : Moves [.breakers, .sections, .lockouts, .vehicles, .trips] s (s.takeTrip f d) := by
  unfold State.takeTrip
  dsimp only
  repeat' split
  all_goals with_reducible repeat' (first | apply Moves.onto (confirmOpen_moves _ _) | apply Moves.onto (enterTrip_moves _ _ _) | apply Moves.ite | apply Moves.refl)
  all_goals decide

theorem intertrip_moves (f : FeederNo) (t : Time) (k : Vector Sample 12) : Moves [.breakers, .sections, .lockouts, .vehicles, .trips] s (s.intertrip f t k) := by
  unfold State.intertrip
  repeat' split
  all_goals with_reducible repeat' (first | apply Moves.onto (takeTrip_moves _ _ _) | apply Moves.ite | apply Moves.refl)
  all_goals decide

theorem handDecision_moves (f : FeederNo) (d : Decision) (k : Vector Sample 12) : Moves [.breakers, .sections, .lockouts, .vehicles, .trips] s (s.handDecision f d k) := by
  unfold State.handDecision
  dsimp only
  repeat' split
  all_goals with_reducible repeat' (first | apply Moves.onto (takeTrip_moves _ _ _) | apply Moves.onto (intertrip_moves _ _ _ _) | apply Moves.ite | apply Moves.refl)
  all_goals decide

theorem shareFaulted_moves (f : FeederNo) : Moves [.breakers, .sections, .lockouts] s (s.shareFaulted f) := by
  unfold State.shareFaulted
  dsimp only
  repeat' split
  all_goals with_reducible repeat' (first | apply Moves.onto (lockOut_moves _ _ _) | apply Moves.onto (setBreaker_moves _ _ _) | apply Moves.refl)
  all_goals decide

theorem toClosing_moves (f : FeederNo) (a : Bool) : Moves [.breakers, .sections] s (s.toClosing f a) := by
  unfold State.toClosing
  dsimp only
  repeat' split
  all_goals with_reducible repeat' (first | apply Moves.onto (putBreaker_moves _ _ _) | apply Moves.ite | apply Moves.refl)
  all_goals decide

theorem endHostTest_moves (f : FeederNo) (o : TestOutcome) (j : Option Judged) : Moves [.breakers, .sections] s (s.endHostTest f o j) := by
  unfold State.endHostTest
  all_goals with_reducible repeat' (first | apply Moves.onto (raise_moves _ _) | apply Moves.onto (toOpen_moves _ _) | apply Moves.refl)
  all_goals decide

theorem closeAfterTest_moves (f : FeederNo) (j : Option Judged) : Moves [.breakers, .sections, .lockouts] s (s.closeAfterTest f j) := by
  unfold State.closeAfterTest
  repeat' split
  all_goals with_reducible repeat' (first | apply Moves.onto (backToDeadTime_moves _ _) | apply Moves.onto (toClosing_moves _ _ _) | apply Moves.onto (endHostTest_moves _ _ _ _) | apply Moves.ite | apply Moves.refl)
  all_goals decide

theorem toTesting_moves (f : FeederNo) (a : Bool) : Moves [.breakers, .sections] s (s.toTesting f a) := by
  unfold State.toTesting
  dsimp only
  repeat' split
  all_goals with_reducible repeat' (first | apply Moves.onto (putBreaker_moves _ _ _) | apply Moves.onto (toClosing_moves _ _ _) | apply Moves.ite | apply Moves.refl)
  all_goals decide

theorem abandonTest_moves (f : FeederNo) : Moves [.breakers, .sections, .lockouts] s (s.abandonTest f) := by
  unfold State.abandonTest
  repeat' split
  all_goals with_reducible repeat' (first | apply Moves.onto (backToDeadTime_moves _ _) | apply Moves.onto (endHostTest_moves _ _ _ _) | apply Moves.ite | apply Moves.refl)
  all_goals decide

theorem setMask_moves (f : FeederNo) : Moves [.protection] s (s.setMask f) := by
  unfold State.setMask
  dsimp only
  all_goals with_reducible repeat' (first | apply Moves.onto (setProtection_moves _ _ _) | apply Moves.refl)
  all_goals decide

theorem partnerOfClosed_moves (f : FeederNo) : Moves [.breakers, .sections, .lockouts] s (s.partnerOfClosed f) := by
  unfold State.partnerOfClosed
  dsimp only
  repeat' split
  all_goals with_reducible repeat' (first | apply Moves.onto (putBreaker_moves _ _ _) | apply Moves.onto (closeAfterTest_moves _ _ _) | apply Moves.ite | apply Moves.refl)
  all_goals decide

theorem confirmClose_moves (f : FeederNo) : Moves [.breakers, .sections, .lockouts, .protection] s (s.confirmClose f) := by
  unfold State.confirmClose
  dsimp only
  repeat' split
  all_goals with_reducible repeat' (first | apply Moves.onto (raise_moves _ _) | apply Moves.onto (putBreaker_moves _ _ _) | apply Moves.onto (setMask_moves _ _) | apply Moves.onto (partnerOfClosed_moves _ _) | apply Moves.ite | apply Moves.refl)
  all_goals decide

theorem uncommandedClose_moves (f : FeederNo) : Moves [.breakers, .sections, .lockouts, .protection] s (s.uncommandedClose f) := by
  unfold State.uncommandedClose
  dsimp only
  all_goals with_reducible repeat' (first | apply Moves.onto (raise_moves _ _) | apply Moves.onto (setLockout_moves _ _ _) | apply Moves.onto (putBreaker_moves _ _ _) | apply Moves.onto (setMask_moves _ _) | apply Moves.onto (partnerOfClosed_moves _ _) | apply Moves.refl)
  all_goals decide

theorem takeOutcome_moves (f : FeederNo) (j : Judged) : Moves [.breakers, .sections, .lockouts] s (s.takeOutcome f j) := by
  unfold State.takeOutcome
  dsimp only
  repeat' split
  all_goals with_reducible repeat' (first | apply Moves.onto (raise_moves _ _) | apply Moves.onto (putBreaker_moves _ _ _) | apply Moves.onto (lockOut_moves _ _ _) | apply Moves.onto (toDeadTime_moves _ _) | apply Moves.onto (endHostTest_moves _ _ _ _) | apply Moves.onto (closeAfterTest_moves _ _ _) | apply Moves.ite | apply Moves.refl)
  all_goals decide

theorem testStep_moves (m : Measurement) (f : FeederNo) : Moves [.breakers, .sections, .lockouts] s (State.testStep m s f) := by
  unfold State.testStep
  dsimp only
  repeat' split
  all_goals with_reducible repeat' (first | apply Moves.onto (setBreaker_moves _ _ _) | apply Moves.onto (abandonTest_moves _ _) | apply Moves.onto (takeOutcome_moves _ _ _) | apply Moves.ite | apply Moves.refl)
  all_goals decide

theorem testSteps_moves (m : Measurement) : Moves [.breakers, .sections, .lockouts] s (s.testSteps m) :=
  .foldl (fun s x => testStep_moves s m x) _ _

theorem takeUpFeeder_moves (f : FeederNo) : Moves [.breakers, .sections, .lockouts] s (s.takeUpFeeder f) := by
  unfold State.takeUpFeeder
  dsimp only
  repeat' split
  all_goals with_reducible repeat' (first | apply Moves.onto (setBreaker_moves _ _ _) | apply Moves.onto (lockOut_moves _ _ _) | apply Moves.onto (toTesting_moves _ _ _) | apply Moves.ite | apply Moves.refl)
  all_goals decide

theorem takeUpFeeders_moves : Moves [.breakers, .sections, .lockouts] s s.takeUpFeeders :=
  .foldl (fun s x => takeUpFeeder_moves s x) _ _

/-! ## Feeder Protection Unit -/

theorem fpu_moves (v : Vector Protection 12) : Moves [.protection] s { s with fpu := v } :=
  ⟨fun p hp => by cases p <;> simp_all [Part.same], rfl, [], rfl⟩

theorem stepRecords_moves (m : Measurement) : Moves [.protection] s (s.stepRecords m) := fpu_moves s _

theorem handOn_moves (m : Measurement) (r : StepResult) (f : FeederNo) : Moves [.breakers, .sections, .lockouts, .vehicles, .trips] s (State.handOn m r s f) := by
  unfold State.handOn
  dsimp only
  repeat' split
  all_goals with_reducible repeat' (first | apply Moves.onto (raise_moves _ _) | apply Moves.onto (handDecision_moves _ _ _ _) | apply Moves.refl)
  all_goals decide

theorem handOnAll_moves (m : Measurement) :
    Moves [.protection, .breakers, .sections, .lockouts, .vehicles, .trips] s (s.handOnAll m) :=
  Moves.onto (.foldl (fun s x => .ite (handOn_moves s m _ x) .refl) _ _)
    (Moves.onto (stepRecords_moves s m) .refl (by decide)) (by decide)

theorem protectionSteps_moves (m : Measurement) :
    Moves [.protection, .breakers, .sections, .lockouts, .vehicles, .trips] s (s.protectionSteps m) :=
  Moves.onto (.foldl (fun s x => shareFaulted_moves s x) _ _) (handOnAll_moves s m) (by decide)

/-! ## Scan Port -/

theorem scp_moves (v : Scp) : Moves [.scan] s { s with scp := v } :=
  ⟨fun p hp => by cases p <;> simp_all [Part.same], rfl, [], rfl⟩

theorem endInjection_moves (f : FeederNo) : Moves [.scan, .protection] s (s.endInjection f) := by
  unfold State.endInjection
  repeat' split
  all_goals with_reducible repeat' (first | apply Moves.onto (setProtection_moves _ _ _) | apply Moves.onto (setInjection_moves _ _ _) | apply Moves.ite | apply Moves.refl)
  all_goals decide

theorem endFinished_moves : Moves [.scan, .protection] s s.endFinished :=
  .foldl (fun s x => .ite (endInjection_moves s x) .refl) _ _

theorem advancePatterns_moves : Moves [.scan] s s.advancePatterns := scp_moves s _

theorem deliver_moves (m : Measurement) :
    Moves [.scan, .protection, .breakers, .sections, .lockouts, .vehicles, .trips] s (s.deliver m) :=
  Moves.onto (testSteps_moves _ m) (Moves.onto (sectionSteps_moves _ m) (Moves.onto (protectionSteps_moves _ m)
    (Moves.onto (scp_moves s _) .refl (by decide)) (by decide)) (by decide)) (by decide)

theorem leaveBlind_moves : Moves [.scan, .protection] s s.leaveBlind :=
  Moves.onto (scp_moves _ _) (Moves.onto (raise_moves _ _) (.foldl (fun s x => .ite
    ((setMask_moves s x).mono (by decide)) .refl) _ _) (by decide)) (by decide)

theorem storeScan_moves (k : Scan) : Moves [.scan] s (s.storeScan k) := scp_moves s _

theorem acceptScan_moves (k : Scan) :
    Moves [.scan, .protection, .breakers, .sections, .lockouts, .vehicles, .trips] s (s.acceptScan k) := by
  unfold State.acceptScan
  dsimp only
  repeat' split
  · exact Moves.onto (deliver_moves _ _) (Moves.onto (scp_moves _ _) (Moves.onto (storeScan_moves s k) .refl (by decide))
      (by decide)) (by decide)
  · exact Moves.onto (leaveBlind_moves _) (Moves.onto (endFinished_moves _) (Moves.onto (deliver_moves _ _)
      (Moves.onto (advancePatterns_moves _) (Moves.onto (storeScan_moves s k) .refl (by decide)) (by decide)) (by decide))
      (by decide)) (by decide)
  · exact Moves.onto (endFinished_moves _) (Moves.onto (deliver_moves _ _)
      (Moves.onto (advancePatterns_moves _) (Moves.onto (storeScan_moves s k) .refl (by decide)) (by decide)) (by decide))
      (by decide)

theorem abandonTests_moves : Moves [.breakers, .sections, .lockouts] s s.abandonTests :=
  .foldl (fun s x => .ite (abandonTest_moves s x) .refl) _ _

theorem enterBlind_moves : Moves [.scan, .breakers, .sections, .lockouts] s s.enterBlind :=
  Moves.onto (abandonTests_moves _) (Moves.onto (raise_moves _ _) (Moves.onto (scp_moves s _) .refl (by decide)) (by decide))
    (by decide)

theorem supplyHeld_moves : Moves [.scan, .protection, .breakers, .sections, .lockouts, .vehicles, .trips] s s.supplyHeld := by
  unfold State.supplyHeld
  dsimp only
  exact .ite (Moves.onto (enterBlind_moves _) (Moves.onto (deliver_moves _ _) (Moves.onto (scp_moves s _) .refl (by decide))
    (by decide)) (by decide)) (Moves.onto (deliver_moves _ _) (Moves.onto (scp_moves s _) .refl (by decide)) (by decide))

/-! ## Point Controller -/

theorem judgeLevel_moves (p : PointNo) : Moves [.points] s (s.judgeLevel p) := by
  unfold State.judgeLevel
  dsimp only
  repeat' split
  all_goals with_reducible repeat' (first | apply Moves.onto (raise_moves _ _) | apply Moves.onto (setPoint_moves _ _ _) | apply Moves.ite | apply Moves.refl)
  all_goals decide

theorem failPoint_moves (p : PointNo) (w : FailCause) (l : Option Leg) : Moves [.points] s (s.failPoint p w l) := by
  unfold State.failPoint
  all_goals with_reducible repeat' (first | apply Moves.onto (raise_moves _ _) | apply Moves.onto (setPoint_moves _ _ _) | apply Moves.refl)
  all_goals decide

theorem startMove_moves (p : PointNo) (l : Leg) : Moves [.points] s (s.startMove p l) := by
  unfold State.startMove
  repeat' split
  all_goals with_reducible repeat' (first | apply Moves.onto (setPoint_moves _ _ _) | apply Moves.ite | apply Moves.refl)
  all_goals decide

theorem takeUpMovement_moves (p : PointNo) : Moves [.points] s (s.takeUpMovement p) := by
  unfold State.takeUpMovement
  repeat' split
  all_goals with_reducible repeat' (first | apply Moves.onto (startMove_moves _ _ _) | apply Moves.refl)
  all_goals decide

theorem takeUpExercise_moves (p : PointNo) : Moves [.points] s (s.takeUpExercise p) := by
  unfold State.takeUpExercise
  dsimp only
  repeat' split
  all_goals with_reducible repeat' (first | apply Moves.onto (setPoint_moves _ _ _) | apply Moves.onto (startMove_moves _ _ _) | apply Moves.ite | apply Moves.refl)
  all_goals decide

theorem takeUpReturn_moves (p : PointNo) : Moves [.points] s (s.takeUpReturn p) := by
  unfold State.takeUpReturn
  dsimp only
  repeat' split
  all_goals with_reducible repeat' (first | apply Moves.onto (setPoint_moves _ _ _) | apply Moves.onto (startMove_moves _ _ _) | apply Moves.ite | apply Moves.refl)
  all_goals decide

theorem arrive_moves (p : PointNo) : Moves [.points] s (s.arrive p) := by
  unfold State.arrive
  dsimp only
  repeat' split
  all_goals with_reducible repeat' (first | apply Moves.onto (raise_moves _ _) | apply Moves.onto (setPoint_moves _ _ _) | apply Moves.ite | apply Moves.refl)
  all_goals decide

theorem takeUpQuiet_moves (p : PointNo) : Moves [.points] s (s.takeUpQuiet p) := by
  unfold State.takeUpQuiet
  dsimp only
  repeat' split
  all_goals with_reducible repeat' (first | apply Moves.onto (setPoint_moves _ _ _) | apply Moves.ite | apply Moves.refl)
  all_goals decide

theorem deriveAspect_moves (p : PointNo) : Moves [.points] s (s.deriveAspect p) := by
  unfold State.deriveAspect
  dsimp only
  repeat' split
  all_goals with_reducible repeat' (first | apply Moves.onto (setPoint_moves _ _ _) | apply Moves.ite | apply Moves.refl)
  all_goals decide

theorem takeUpPoint_moves (p : PointNo) : Moves [.points] s (s.takeUpPoint p) := by
  unfold State.takeUpPoint
  repeat' split
  all_goals with_reducible repeat' (first | apply Moves.onto (takeUpMovement_moves _ _) | apply Moves.onto (takeUpExercise_moves _ _) | apply Moves.onto (takeUpReturn_moves _ _) | apply Moves.onto (takeUpQuiet_moves _ _) | apply Moves.onto (deriveAspect_moves _ _) | apply Moves.ite | apply Moves.refl)
  all_goals decide

theorem takeUpPoints_moves : Moves [.points] s s.takeUpPoints := .foldl (fun s x => takeUpPoint_moves s x) _ _

theorem mode_moves (m : Mode) (n : Gen) : Moves [.mode] s { s with sst := { s.sst with mode := m, notedGen := n } } :=
  ⟨fun p hp => by cases p <;> simp_all [Part.same], rfl, [], rfl⟩

theorem changeMode_moves (m : Mode) : Moves [.mode] s (s.changeMode m) :=
  Moves.onto (raise_moves _ _) (mode_moves s m s.sst.notedGen) (by decide)

theorem takeUpDrain_moves : Moves [.mode] s s.takeUpDrain := by
  unfold State.takeUpDrain
  exact .ite (Moves.onto (mode_moves _ _ _) (changeMode_moves s .configure) (by decide)) .refl

theorem takeUp_moves : Moves settleParts s s.takeUp :=
  Moves.onto (takeUpPoints_moves _) (Moves.onto (takeUpDrain_moves _) (Moves.onto (takeUpFeeders_moves s) .refl (by decide))
    (by decide)) (by decide)

theorem watchDetectors_moves (p : PointNo) : Moves [.points] s (s.watchDetectors p) := by
  unfold State.watchDetectors
  dsimp only
  repeat' split
  all_goals with_reducible repeat' (first | apply Moves.onto (setPoint_moves _ _ _) | apply Moves.ite | apply Moves.refl)
  all_goals decide

theorem joinZone_moves (p : PointNo) (n : SlotNo) (l : Leg) (k : Source) : Moves [.points] s (s.joinZone p n l k) := by
  unfold State.joinZone
  dsimp only
  repeat' split
  all_goals with_reducible repeat' (first | apply Moves.onto (setPoint_moves _ _ _) | apply Moves.ite | apply Moves.refl)
  all_goals decide

theorem overfull_moves (p : PointNo) : Moves [.points] s (s.overfull p) := by
  unfold State.overfull
  dsimp only
  repeat' split
  all_goals with_reducible repeat' (first | apply Moves.onto (raise_moves _ _) | apply Moves.onto (setPoint_moves _ _ _) | apply Moves.refl)
  all_goals decide

theorem dropReservation_moves (p : PointNo) : Moves [.points] s (s.dropReservation p) := by
  unfold State.dropReservation
  all_goals with_reducible repeat' (first | apply Moves.onto (setPoint_moves _ _ _) | apply Moves.refl)
  all_goals decide

theorem entryReport_moves (p : PointNo) (flag : CurrentFlag) : Moves [.vehicles, .points] s (s.entryReport p flag) := by
  unfold State.entryReport
  dsimp only
  repeat' split
  all_goals with_reducible repeat' (first | apply Moves.onto (vehicleAtEntry_moves _ _ _ _) | apply Moves.onto (joinZone_moves _ _ _ _ _) | apply Moves.onto (overfull_moves _ _) | apply Moves.onto (dropReservation_moves _ _) | apply Moves.ite | apply Moves.refl | refine Moves.onto (vehicleAtEntry_at _ ‹_›) ?_ ?_)
  all_goals decide

theorem exitReport_moves (p : PointNo) (l : Leg) (g : GateNo) (k : Option Candidate) : Moves [.vehicles, .points] s (s.exitReport p l g k) := by
  unfold State.exitReport
  dsimp only
  repeat' split
  all_goals with_reducible repeat' (first | apply Moves.onto (raise_moves _ _) | apply Moves.onto (setPoint_moves _ _ _) | apply Moves.onto (applyFault_moves _ _ _) | apply Moves.ite | apply Moves.refl)
  all_goals decide

theorem takeTelegram_moves (k : Telegram) : Moves [.points] s (s.takeTelegram k) := by
  unfold State.takeTelegram
  dsimp only
  repeat' split
  all_goals with_reducible repeat' (first | apply Moves.onto (setPoint_moves _ _ _) | apply Moves.ite | apply Moves.refl)
  all_goals decide

/-! ## Gate Scanner -/

theorem engagement_moves (g : GateNo) : Moves [.vehicles] s (s.engagement g) := by
  unfold State.engagement
  dsimp only
  repeat' split
  all_goals with_reducible repeat' (first | apply Moves.onto (takeGate_moves _ _ _) | apply Moves.refl)
  all_goals decide

theorem entryCompletion_moves (g : GateNo) (flag : CurrentFlag) : Moves [.vehicles] s (s.entryCompletion g flag) := by
  unfold State.entryCompletion
  repeat' split
  all_goals with_reducible repeat' (first | apply Moves.onto (modVehicle_moves _ _ _) | apply Moves.onto (releaseGate_moves _ _) | apply Moves.refl)
  all_goals decide

theorem poleFault_moves (g : GateNo) (k : Missing) : Moves [.vehicles] s (s.poleFault g k) := by
  unfold State.poleFault
  repeat' split
  all_goals with_reducible repeat' (first | apply Moves.onto (raise_moves _ _) | apply Moves.onto (applyFault_moves _ _ _) | apply Moves.onto (modVehicle_moves _ _ _) | apply Moves.refl)
  all_goals decide

theorem clearStuck_moves (g : GateNo) : Moves [.gates] s (s.clearStuck g) := by
  unfold State.clearStuck
  repeat' split
  all_goals with_reducible repeat' (first | apply Moves.onto (raise_moves _ _) | apply Moves.onto (setGate_moves _ _ _) | apply Moves.ite | apply Moves.refl)
  all_goals decide

theorem engage_moves (g : GateNo) (k : Contact) : Moves [.gates, .vehicles, .points] s (s.engage g k) := by
  unfold State.engage
  dsimp only
  repeat' split
  all_goals with_reducible repeat' (first | apply Moves.onto (setGate_moves _ _ _) | apply Moves.onto (entryReport_moves _ _ _) | apply Moves.onto (engagement_moves _ _) | apply Moves.ite | apply Moves.refl)
  all_goals decide

theorem completePassage_moves (g : GateNo) : Moves [.gates, .vehicles, .points] s (s.completePassage g) := by
  unfold State.completePassage
  dsimp only
  repeat' split
  all_goals with_reducible repeat' (first | apply Moves.onto (setGate_moves _ _ _) | apply Moves.onto (complete_moves _ _ _ _ _) | apply Moves.onto (exitReport_moves _ _ _ _ _) | apply Moves.onto (entryCompletion_moves _ _ _) | apply Moves.onto (clearStuck_moves _ _) | apply Moves.refl | refine Moves.onto (complete_at _ ‹_›) ?_ ?_)
  all_goals decide

theorem seeContact_moves (g : GateNo) (k : Contact) : Moves [.gates, .vehicles, .points] s (s.seeContact g k) := by
  unfold State.seeContact
  dsimp only
  repeat' split
  all_goals with_reducible repeat' (first | apply Moves.onto (setGate_moves _ _ _) | apply Moves.onto (entryReport_moves _ _ _) | apply Moves.ite | apply Moves.refl)
  all_goals decide

theorem endSettling_moves (g : GateNo) : Moves [.gates] s (s.endSettling g) := by
  unfold State.endSettling
  all_goals with_reducible repeat' (first | apply Moves.onto (setGate_moves _ _ _) | apply Moves.onto (clearStuck_moves _ _) | apply Moves.refl)
  all_goals decide

theorem contactEvent_moves (g : GateNo) (k : Contact) (a : Bool) : Moves [.gates, .vehicles, .points] s (s.contactEvent g k a) := by
  unfold State.contactEvent
  dsimp only
  repeat' split
  all_goals with_reducible repeat' (first | apply Moves.onto (engage_moves _ _ _) | apply Moves.onto (completePassage_moves _ _) | apply Moves.onto (seeContact_moves _ _ _) | apply Moves.onto (endSettling_moves _ _) | apply Moves.ite | apply Moves.refl)
  all_goals decide

theorem missPole_moves (g : GateNo) : Moves [.gates, .vehicles, .points] s (s.missPole g) := by
  unfold State.missPole
  dsimp only
  repeat' split
  all_goals with_reducible repeat' (first | apply Moves.onto (setGate_moves _ _ _) | apply Moves.onto (entryReport_moves _ _ _) | apply Moves.onto (poleFault_moves _ _ _) | apply Moves.onto (completePassage_moves _ _) | apply Moves.ite | apply Moves.refl)
  all_goals decide

/-! ## A new topology -/

theorem activateFeeder_moves (old : Topology) (f : FeederNo) : Moves [.scan, .protection, .breakers, .lockouts] s (State.activateFeeder old s f) := by
  unfold State.activateFeeder
  repeat' split
  all_goals with_reducible repeat' (first | apply Moves.onto (setBreaker_moves _ _ _) | apply Moves.onto (setProtection_moves _ _ _) | apply Moves.onto (setLockout_moves _ _ _) | apply Moves.onto (endInjection_moves _ _) | apply Moves.refl)
  all_goals decide

theorem activateSection_moves (c : SectionNo) : Moves [.sections] s (s.activateSection c) := by
  unfold State.activateSection
  dsimp only
  repeat' split
  all_goals with_reducible repeat' (first | apply Moves.onto (setSec_moves _ _ _) | apply Moves.onto (raiseSectionState_moves _ _ _) | apply Moves.onto (clearBackfeed_moves _ _ _) | apply Moves.onto (clearSupplyLost_moves _ _ _) | apply Moves.onto (refreshFed_moves _ _) | apply Moves.ite | apply Moves.refl)
  all_goals decide

theorem activateGate_moves (old : Topology) (g : GateNo) : Moves [.gates, .vehicles] s (State.activateGate old s g) := by
  unfold State.activateGate
  dsimp only
  repeat' split
  all_goals with_reducible repeat' (first | apply Moves.onto (setGate_moves _ _ _) | apply Moves.onto (releaseGate_moves _ _) | apply Moves.onto (clearStuck_moves _ _) | apply Moves.ite | apply Moves.refl)
  all_goals decide

theorem activatePoint_moves (old : Topology) (p : PointNo) : Moves [.points] s (State.activatePoint old s p) := by
  unfold State.activatePoint
  dsimp only
  repeat' split
  all_goals with_reducible repeat' (first | apply Moves.onto (setPoint_moves _ _ _) | apply Moves.ite | apply Moves.refl)
  all_goals decide

theorem clearPoint_moves (p : PointNo) : Moves [.points] s (s.clearPoint p) := by
  unfold State.clearPoint
  dsimp only
  repeat' split
  all_goals with_reducible repeat' (first | apply Moves.onto (setPoint_moves _ _ _) | apply Moves.ite | apply Moves.refl)
  all_goals decide

theorem clearTracking_moves : Moves [.vehicles, .points] s s.clearTracking :=
  Moves.onto (.foldl (fun s x => clearPoint_moves s x) _ _) ((vtr_moves s .empty).mono (by decide)) (by decide)

theorem active_moves (T : Topology) : Moves [.settings] s { s with sst := { s.sst with active := T } } :=
  ⟨fun p hp => by cases p <;> simp_all [Part.same], rfl, [], rfl⟩

theorem activate_moves :
    Moves [.settings, .scan, .protection, .breakers, .lockouts, .sections, .gates, .vehicles, .points] s s.activate := by
  have h1 := active_moves s s.sst.working.topology
  have h2 := Moves.foldl (fun t f => activateFeeder_moves t s.topo f) (List.finRange 12)
    { s with sst := { s.sst with active := s.sst.working.topology } }
  have h3 := Moves.foldl activateSection_moves (List.finRange 12)
    ((List.finRange 12).foldl (State.activateFeeder s.topo) { s with sst := { s.sst with active := s.sst.working.topology } })
  have h := Moves.onto (Moves.foldl (fun t p => activatePoint_moves t s.topo p) (List.finRange 16) _)
    (Moves.onto (Moves.foldl (fun t g => activateGate_moves t s.topo g) (List.finRange 64) _)
      (Moves.onto h3 (Moves.onto h2 (h1.mono (m := [.settings])
        (l := [.settings, .scan, .protection, .breakers, .lockouts, .sections, .gates, .vehicles, .points]) (by decide))
        (by decide)) (by decide)) (by decide)) (by decide)
  exact .ite (Moves.onto (clearTracking_moves _) h (by decide)) h

/-! ## The host's own changes -/

theorem rejudge_moves (old : State) (id : RecordId) : Moves [.points] s (s.rejudge old id) := by
  unfold State.rejudge
  repeat' split
  all_goals with_reducible repeat' (first | apply Moves.onto (judgeLevel_moves _ _) | apply Moves.ite | apply Moves.refl)
  all_goals decide

theorem sst_moves (t : Sst) : Moves [.settings, .mode] s { s with sst := t } :=
  ⟨fun p hp => by cases p <;> simp_all [Part.same], rfl, [], rfl⟩

theorem acceptWrite_moves (id : RecordId) (k : List Int) :
    Moves [.settings, .mode, .breakers, .sections, .lockouts, .points] s (s.acceptWrite id k) :=
  Moves.onto (takeUp_moves _) (Moves.onto (rejudge_moves _ s id) ((sst_moves s _).mono (by decide)) (by decide)) (by decide)

theorem completeStore_moves (good : Bool) : Moves [.settings, .mode] s (s.completeStore good) := by
  unfold State.completeStore
  split
  · exact .refl
  · exact Moves.onto (raise_moves _ _) (sst_moves s _) (by decide)

end Sys2Proof.Machine
end

