-- ==== Sys2Proof/Laws/TakeUp.lean ====
section
/-! SUPPORT. What putting a breaker record does, and what the end of an event (State.takeUp) can do: `takeUp_settles` says it whole. -/

namespace Sys2Proof.Machine

/-! ## What a frame keeps, read off -/

section
variable {l : List Part} {s t : State}

theorem KeptBut.of (h : KeptBut l s t) (p : Part) (hp : p ∉ l) : Part.same s t p := h p hp

theorem KeptBut.breaker (h : KeptBut l s t) (hp : Part.breakers ∉ l) (f : FeederNo) : t.breaker f = s.breaker f := by
  simpa [State.breaker, Part.same] using congrArg (fun v => v[f]) (h .breakers hp)

theorem KeptBut.sec (h : KeptBut l s t) (hp : Part.sections ∉ l) (c : SectionNo) : t.sec c = s.sec c := by
  simpa [State.sec, Part.same] using congrArg (fun v => v[c]) (h .sections hp)

theorem KeptBut.point (h : KeptBut l s t) (hp : Part.points ∉ l) (p : PointNo) : t.point p = s.point p := by
  simpa [State.point, Part.same] using congrArg (fun v => v[p]) (h .points hp)

theorem KeptBut.lockout (h : KeptBut l s t) (hp : Part.lockouts ∉ l) (f : FeederNo) : t.lockout f = s.lockout f := by
  simpa [State.lockout, Part.same] using congrArg (fun v => v[f]) (h .lockouts hp)

theorem KeptBut.protection (h : KeptBut l s t) (hp : Part.protection ∉ l) (f : FeederNo) : t.protection f = s.protection f := by
  simpa [State.protection, Part.same] using congrArg (fun v => v[f]) (h .protection hp)

theorem KeptBut.locks (h : KeptBut l s t) (hp : Part.locks ∉ l) (c : SectionNo) : t.locks c = s.locks c := by
  simpa [State.locks, Part.same] using congrArg (fun v => v[c]) (h .locks hp)

theorem KeptBut.gate (h : KeptBut l s t) (hp : Part.gates ∉ l) (g : GateNo) : t.gate g = s.gate g := by
  simpa [State.gate, Part.same] using congrArg (fun v => v[g]) (h .gates hp)

theorem KeptBut.vehicle (h : KeptBut l s t) (hp : Part.vehicles ∉ l) (n : SlotNo) : t.vehicle n = s.vehicle n := by
  simpa [State.vehicle, Part.same] using congrArg (fun v : Vtr => v.slots[n]) (h .vehicles hp)

theorem KeptBut.queue (h : KeptBut l s t) (hp : Part.vehicles ∉ l) (g : SegmentNo) : t.queue g = s.queue g := by
  simpa [State.queue, Part.same] using congrArg (fun v : Vtr => v.queues[g]) (h .vehicles hp)

theorem KeptBut.topo (h : KeptBut l s t) (hp : Part.settings ∉ l) : t.topo = s.topo := by
  simpa [State.topo, Part.same] using congrArg Sst.active (h .settings hp)

theorem KeptBut.working (h : KeptBut l s t) (hp : Part.settings ∉ l) : t.sst.working = s.sst.working := by
  simpa [Part.same] using congrArg Sst.working (h .settings hp)

theorem KeptBut.modeOf (h : KeptBut l s t) (hp : Part.mode ∉ l) : t.sst.mode = s.sst.mode := (h .mode hp).1

end

/-! ## Putting a breaker record (R81, R83) -/

variable (s : State)

@[simp] theorem refreshFed_breaker (c : SectionNo) (g : FeederNo) : (s.refreshFed c).breaker g = s.breaker g :=
  (refreshFed_moves s c).kept.breaker (by decide) g

theorem putBreaker_breaker (f : FeederNo) (b : Breaker) (g : FeederNo) :
    (s.putBreaker f b).breaker g = if g = f then b else s.breaker g := by
  unfold State.putBreaker
  dsimp only
  repeat' split
  all_goals simp_all [State.zeroBackfeed, State.setBreaker_breaker]

@[simp] theorem putBreaker_breaker_self (f : FeederNo) (b : Breaker) : (s.putBreaker f b).breaker f = b := by
  simp [putBreaker_breaker]

theorem putBreaker_breaker_ne {f g : FeederNo} (b : Breaker) (h : g ≠ f) : (s.putBreaker f b).breaker g = s.breaker g := by
  simp [putBreaker_breaker, h]

@[simp] theorem putBreaker_lockout (f : FeederNo) (b : Breaker) (g : FeederNo) : (s.putBreaker f b).lockout g = s.lockout g :=
  (putBreaker_moves s f b).kept.lockout (by decide) g

/-! ## Sections: energy state, voltage and live count -/

/-- The energy state, voltage and live count of every section are the same. -/
def SectionsStand (s t : State) : Prop :=
  ∀ c, (t.sec c).live = (s.sec c).live ∧ (t.sec c).voltage = (s.sec c).voltage ∧ (t.sec c).liveCount = (s.sec c).liveCount

theorem SectionsStand.refl : SectionsStand s s := fun _ => ⟨rfl, rfl, rfl⟩

variable {s} in
theorem SectionsStand.trans {t u : State} (h : SectionsStand s t) (h' : SectionsStand t u) : SectionsStand s u := fun c =>
  ⟨(h' c).1.trans (h c).1, (h' c).2.1.trans (h c).2.1, (h' c).2.2.trans (h c).2.2⟩

variable {s} in
theorem SectionsStand.of_moves {l : List Part} {t : State} (h : Moves l s t) (hl : Part.sections ∉ .link :: l) : SectionsStand s t :=
  fun c => by simp [h.kept.sec hl c]

section
variable {s} {t : State}

/-- Writing a section's record with these three unchanged. -/
theorem SectionsStand.setSec {c : SectionNo} {r : SectionRec} (h : SectionsStand s t) (h1 : r.live = (t.sec c).live)
    (h2 : r.voltage = (t.sec c).voltage) (h3 : r.liveCount = (t.sec c).liveCount) : SectionsStand s (t.setSec c r) :=
  h.trans fun d => by
    by_cases h : d = c
    · subst h; simp [h1, h2, h3]
    · simp [State.setSec_sec, h]

theorem SectionsStand.raise (h : SectionsStand s t) (n : NoticeBody) : SectionsStand s (t.raise n) := h.trans fun _ => by simp

theorem SectionsStand.clearBackfeed (h : SectionsStand s t) (c : SectionNo) (b : Bool) : SectionsStand s (t.clearBackfeed c b) := by
  unfold State.clearBackfeed
  split
  · apply SectionsStand.raise
    apply SectionsStand.setSec h <;> rfl
  · exact h

theorem SectionsStand.clearSupplyLost (h : SectionsStand s t) (c : SectionNo) (b : Bool) : SectionsStand s (t.clearSupplyLost c b) := by
  unfold State.clearSupplyLost
  split
  · apply SectionsStand.raise
    apply SectionsStand.setSec h <;> rfl
  · exact h

theorem SectionsStand.ite {u : State} {c : Prop} [Decidable c] (h : SectionsStand s t) (h' : SectionsStand s u) :
    SectionsStand s (if c then t else u) := by
  split
  · exact h
  · exact h'

theorem SectionsStand.refreshFed (h : SectionsStand s t) (c : SectionNo) : SectionsStand s (t.refreshFed c) := by
  unfold State.refreshFed
  apply SectionsStand.ite h
  apply SectionsStand.ite
  · apply SectionsStand.clearBackfeed
    apply SectionsStand.clearSupplyLost
    apply SectionsStand.setSec h <;> rfl
  · apply SectionsStand.clearSupplyLost
    apply SectionsStand.setSec h <;> rfl

theorem SectionsStand.putBreaker (h : SectionsStand s t) (f : FeederNo) (b : Breaker) : SectionsStand s (t.putBreaker f b) := by
  have h1 : SectionsStand s (t.setBreaker f b) := h.trans fun _ => by simp
  unfold State.putBreaker
  dsimp only
  split
  · exact h1
  · apply SectionsStand.refreshFed
    refine SectionsStand.ite ?_ h1
    apply SectionsStand.setSec h1 <;> rfl

theorem SectionsStand.lockOutOne (h : SectionsStand s t) (f : FeederNo) (w : LockoutCause) : SectionsStand s (t.lockOutOne f w) := by
  unfold State.lockOutOne
  dsimp only
  apply SectionsStand.raise
  exact SectionsStand.trans (h.putBreaker f (.rest .lockedOut (t.breaker f).judged)) fun _ => by simp

theorem SectionsStand.lockOut (h : SectionsStand s t) (f : FeederNo) (w : LockoutCause) : SectionsStand s (t.lockOut f w) := by
  unfold State.lockOut
  dsimp only
  split
  · exact h.lockOutOne f w
  · exact (h.lockOutOne f w).lockOutOne _ _

theorem SectionsStand.toClosing (h : SectionsStand s t) (f : FeederNo) (a : Bool) : SectionsStand s (t.toClosing f a) := h.putBreaker f _

theorem SectionsStand.toTesting (h : SectionsStand s t) (f : FeederNo) (a : Bool) : SectionsStand s (t.toTesting f a) := by
  unfold State.toTesting
  dsimp only
  split
  · exact (h.putBreaker f _).toClosing _ _
  · exact h.putBreaker f _

end

/-! ## Feeders at the end of an event -/

@[simp] theorem lockOutOne_breaker (f : FeederNo) (w : LockoutCause) (g : FeederNo) :
    (s.lockOutOne f w).breaker g = if g = f then .rest .lockedOut (s.breaker f).judged else s.breaker g := by
  simp [State.lockOutOne, putBreaker_breaker]

@[simp] theorem lockOutOne_lockout (f : FeederNo) (w : LockoutCause) (g : FeederNo) :
    (s.lockOutOne f w).lockout g = if g = f then some w else s.lockout g := by
  simp [State.lockOutOne, State.setLockout_lockout]

/-- A feeder that is neither in DEAD_TIME nor in CLOSING is the same. -/
def FeedersStand (s t : State) : Prop :=
  ∀ g, (s.breaker g).state ≠ .deadTime → (s.breaker g).state ≠ .closing → t.breaker g = s.breaker g ∧ t.lockout g = s.lockout g

theorem lockedWith_deadTime {f g : FeederNo} (h : s.lockedWith f = some g) : (s.breaker g).state = .deadTime := by
  unfold State.lockedWith at h
  split at h
  · cases h
  · dsimp only at h
    split at h
    · cases h
      exact (‹_ ∧ _› : _ ∧ _).1
    · cases h

theorem lockOut_feeders {f : FeederNo} (w : LockoutCause) (hf : (s.breaker f).state = .deadTime) : FeedersStand s (s.lockOut f w) := by
  intro g hg _
  have hgf : g ≠ f := fun e => hg (e ▸ hf)
  unfold State.lockOut
  dsimp only
  split
  · simp [hgf]
  · rename_i p hp
    have hd := lockedWith_deadTime _ hp
    have hgp : g ≠ p := fun e => hg (by simpa [hgf, e ▸ hgf, ← e] using hd)
    simp [hgf, hgp]

theorem toTesting_breaker_ne {f g : FeederNo} (a : Bool) (h : g ≠ f) : (s.toTesting f a).breaker g = s.breaker g := by
  unfold State.toTesting State.toClosing
  dsimp only
  split <;> simp [putBreaker_breaker_ne _ _ h]

@[simp] theorem toTesting_lockout (f : FeederNo) (a : Bool) (g : FeederNo) : (s.toTesting f a).lockout g = s.lockout g :=
  (toTesting_moves s f a).kept.lockout (by decide) g

theorem takeUpFeeder_feeders (f : FeederNo) : FeedersStand s (s.takeUpFeeder f) := by
  unfold State.takeUpFeeder
  dsimp only
  split
  · rename_i hd
    repeat' split
    · exact fun _ _ _ => ⟨rfl, rfl⟩
    · exact lockOut_feeders s _ hd
    · intro g hg _
      have hgf : g ≠ f := fun e => hg (e ▸ hd)
      exact ⟨toTesting_breaker_ne s _ hgf, toTesting_lockout s f _ g⟩
    · exact fun _ _ _ => ⟨rfl, rfl⟩
  · rename_i hc
    split
    · intro g _ hg
      have hgf : g ≠ f := fun e => hg (e ▸ hc)
      exact ⟨State.setBreaker_breaker_ne s f _ hgf, by simp⟩
    · exact fun _ _ _ => ⟨rfl, rfl⟩
  all_goals exact fun _ _ _ => ⟨rfl, rfl⟩

theorem takeUpFeeder_stands (f : FeederNo) : SectionsStand s (s.takeUpFeeder f) := by
  unfold State.takeUpFeeder
  dsimp only
  repeat' split
  all_goals first
    | exact .refl s
    | exact (SectionsStand.refl s).lockOut _ _
    | exact (SectionsStand.refl s).toTesting _ _

/-! ## Points at the end of an event -/

theorem PointStands.refl (p : PointNo) : PointStands s s p :=
  ⟨fun _ => rfl, .inl rfl, fun _ => rfl, fun _ => ⟨rfl, rfl, rfl, rfl⟩, rfl, rfl, rfl, rfl, rfl, rfl, rfl, rfl, rfl, rfl, rfl⟩

variable {s} in
theorem PointStands.of_eq {t : State} {p : PointNo} (h : t.point p = s.point p) : PointStands s t p := by
  constructor <;> simp [h]

variable {s} in
theorem PointStands.congr {t u : State} {p : PointNo} (h : PointStands s t p) (e : u.point p = t.point p) : PointStands s u p := by
  obtain ⟨h1, h2, h3, h4, h5, h6, h7, h8, h9, h10, h11, h12, h13, h14, h15⟩ := h
  constructor <;> simpa only [e]

variable {s} in
theorem PointStands.trans {t u : State} {p : PointNo} (hf : t.topo = s.topo) (h : PointStands s t p) (h' : PointStands t u p) :
    PointStands s u p where
  unfitted hs := (h'.unfitted (by simpa [State.fitted, hf] using hs)).trans (h.unfitted hs)
  state := by rcases h.state with h1 | h1 <;> rcases h'.state with h2 | h2 <;> simp_all
  leg hl := by
    rcases h.state with h1 | h1 <;> rcases h'.state with h2 | h2 <;> simp_all [h.leg, h'.leg]
  timers hl := by
    have h3 := h.timers
    have h4 := h'.timers
    rcases h.state with h1 | h1 <;> rcases h'.state with h2 | h2 <;> simp_all
  failure := h'.failure.trans h.failure
  confirmed := h'.confirmed.trans h.confirmed
  queue := h'.queue.trans h.queue
  reservations := h'.reservations.trans h.reservations
  route := h'.route.trans h.route
  proofDemand := h'.proofDemand.trans h.proofDemand
  serviceOut := h'.serviceOut.trans h.serviceOut
  level := h'.level.trans h.level
  proofTime := h'.proofTime.trans h.proofTime
  request := h'.request.trans h.request
  proofs := h'.proofs.trans h.proofs

/-- Writing a fitted point's record with these fields unchanged. -/
theorem setPoint_stands {p : PointNo} {r : PointRec} (q : PointNo) (hfit : s.fitted p = true)
    (hst : r.state = (s.point p).state ∨ ((s.point p).state = .set ∧ r.state = .moving))
    (hleg : r.state = (s.point p).state → r.leg = (s.point p).leg ∧ r.moveTimer = (s.point p).moveTimer ∧
      r.arrivalWait = (s.point p).arrivalWait ∧ r.detectionWait = (s.point p).detectionWait ∧
      r.proving.phase = (s.point p).proving.phase)
    (hrest : r.failure = (s.point p).failure ∧ r.confirmed = (s.point p).confirmed ∧
      r.queue.map (fun e => (e.slot, e.leg, e.source)) = (s.point p).queue.map (fun e => (e.slot, e.leg, e.source)) ∧
      r.reservations = (s.point p).reservations ∧ r.route = (s.point p).route ∧ r.proofDemand = (s.point p).proofDemand ∧
      r.serviceOut = (s.point p).serviceOut ∧ r.proving.level = (s.point p).proving.level ∧
      r.proving.proofTime = (s.point p).proving.proofTime ∧ r.proving.request = (s.point p).proving.request ∧
      r.proving.proofs = (s.point p).proving.proofs) : PointStands s (s.setPoint p r) q := by
  by_cases h : q = p
  · subst h
    obtain ⟨h1, h2, h3, h4, h5, h6, h7, h8, h9, h10, h11⟩ := hrest
    constructor <;> simp_all
  · exact .of_eq (s.setPoint_point_ne _ _ h)

theorem startMove_stands {p : PointNo} (l : Leg) (q : PointNo) (hfit : s.fitted p = true) (hset : (s.point p).state = .set) :
    PointStands s (s.startMove p l) q :=
  setPoint_stands s q hfit (.inr ⟨hset, rfl⟩) (fun h => by simp [hset] at h) ⟨rfl, rfl, rfl, rfl, rfl, rfl, rfl, rfl, rfl, rfl, rfl⟩

theorem mayMove_set {p : PointNo} (h : s.mayMove p = true) : s.fitted p = true ∧ (s.point p).state = .set := by
  simp [State.mayMove] at h
  exact ⟨h.1.1.1, h.1.1.2⟩

@[simp] theorem setPoint_fitted (p q : PointNo) (r : PointRec) : (s.setPoint p r).fitted q = s.fitted q := rfl

@[simp] theorem setPoint_setPoint (p : PointNo) (r r' : PointRec) : (s.setPoint p r).setPoint p r' = s.setPoint p r' := by
  simp [State.setPoint, Vector.set_set]

theorem takeUpMovement_stands (p q : PointNo) : PointStands s (s.takeUpMovement p) q := by
  unfold State.takeUpMovement
  split
  · exact .refl s q
  · rename_i l hl
    have hm : s.mayMove p = true := by
      unfold State.movementTarget at hl
      dsimp only at hl
      split at hl
      · cases hl
      · simp_all
    exact startMove_stands s l q (mayMove_set s hm).1 (mayMove_set s hm).2

theorem takeUpExercise_stands (p q : PointNo) : PointStands s (s.takeUpExercise p) q := by
  unfold State.takeUpExercise
  split
  · rename_i h
    have hm : s.mayMove p = true := by
      unfold State.exerciseDue at h
      simp at h
      exact h.1.1.1.1
    obtain ⟨hf, hs⟩ := mayMove_set s hm
    dsimp only [State.startMove]
    rw [State.setPoint_point_self, setPoint_setPoint]
    refine setPoint_stands s q hf (.inr ⟨hs, rfl⟩) (fun h => ?_) ⟨?_, ?_, ?_, ?_, ?_, ?_, ?_, ?_, ?_, ?_, ?_⟩ <;> first | rfl | simp [hs] at h
  · exact .refl s q

theorem takeUpReturn_stands (p q : PointNo) : PointStands s (s.takeUpReturn p) q := by
  unfold State.takeUpReturn
  split
  · rename_i h
    have hm : s.mayMove p = true := by
      unfold State.returnDue at h
      simp at h
      exact h.1.1.1
    obtain ⟨hf, hs⟩ := mayMove_set s hm
    dsimp only [State.startMove]
    rw [State.setPoint_point_self, setPoint_setPoint]
    refine setPoint_stands s q hf (.inr ⟨hs, rfl⟩) (fun h => ?_) ⟨?_, ?_, ?_, ?_, ?_, ?_, ?_, ?_, ?_, ?_, ?_⟩ <;> first | rfl | simp [hs] at h
  · exact .refl s q

theorem markHead_same (now : Time) (tZone : Nat) (shown : Option Leg) (l : List ZoneEntry) :
    (State.markHead now tZone shown l).map (fun e => (e.slot, e.leg, e.source)) = l.map fun e => (e.slot, e.leg, e.source) := by
  cases l with
  | nil => rfl
  | cons h rest =>
    simp only [State.markHead]
    split <;> rfl

theorem takeUpPoint_stands (p q : PointNo) : PointStands s (s.takeUpPoint p) q := by
  unfold State.takeUpPoint
  split
  · rename_i hf
    have same : ∀ {t : State}, Moves [.points] s t → t.topo = s.topo := fun h => h.kept.topo (by decide)
    have h1 : PointStands s (s.takeUpQuiet p) q :=
      setPoint_stands s q hf (.inl rfl) (fun _ => ⟨rfl, rfl, rfl, rfl, rfl⟩) ⟨rfl, rfl, rfl, rfl, rfl, rfl, rfl, rfl, rfl, rfl, rfl⟩
    have m1 := takeUpQuiet_moves s p
    have m2 := Moves.onto (takeUpMovement_moves _ p) m1 (by decide)
    have m3 := Moves.onto (takeUpExercise_moves _ p) m2 (by decide)
    have m4 := Moves.onto (takeUpReturn_moves _ p) m3 (by decide)
    have h4 := ((h1.trans (same m1) (takeUpMovement_stands _ p q)).trans (same m2) (takeUpExercise_stands _ p q)).trans (same m3)
      (takeUpReturn_stands _ p q)
    refine h4.trans (same m4) (setPoint_stands _ q (by simpa [State.fitted, same m4] using hf) (.inl rfl) (fun _ => ⟨rfl, rfl, rfl, rfl, rfl⟩)
      ⟨rfl, rfl, markHead_same _ _ _ _, rfl, rfl, rfl, rfl, rfl, rfl, rfl, rfl⟩)
  · exact .refl s q

/-! ## The whole -/

theorem Settles.refl : Settles [] [] [] s s :=
  ⟨.refl _ s, .inl rfl, fun _ _ _ _ => ⟨rfl, rfl⟩, SectionsStand.refl s, fun p _ => .refl s p⟩

variable {s} in
theorem Settles.then {l : List Part} {fs : List FeederNo} {ps : List PointNo} {t u : State} (h : Settles l fs ps s t)
    (h' : Settles [] [] [] t u) (ht : t.topo = s.topo) : Settles l fs ps s u where
  kept := h.kept.trans (h'.kept.mono fun p hp => by
    rcases List.mem_cons.mp hp with rfl | hp
    · exact List.mem_cons_self
    · exact List.mem_cons_of_mem _ (List.mem_append.mpr (.inl (by simpa using hp))))
  mode := by rcases h.mode with h1 | h1 <;> rcases h'.mode with h2 | h2 <;> simp_all
  feeders g hg h1 h2 := by
    obtain ⟨hb, hl⟩ := h.feeders g hg h1 h2
    obtain ⟨hb', hl'⟩ := h'.feeders g (by simp) (by rwa [hb]) (by rwa [hb])
    exact ⟨hb'.trans hb, hl'.trans hl⟩
  sections := SectionsStand.trans h.sections h'.sections
  points p hp := (h.points p hp).trans ht (h'.points p (by simp))

theorem Settles.foldl {α : Type} {g : State → α → State} (h : ∀ s x, Settles [] [] [] s (g s x) ∧ (g s x).topo = s.topo)
    (xs : List α) (s : State) : Settles [] [] [] s (xs.foldl g s) ∧ (xs.foldl g s).topo = s.topo := by
  induction xs generalizing s with
  | nil => exact ⟨.refl s, rfl⟩
  | cons x xs ih => exact ⟨(h s x).1.then (ih _).1 (h s x).2, (ih _).2.trans (h s x).2⟩

theorem takeUpFeeders_settles : Settles [] [] [] s s.takeUpFeeders ∧ s.takeUpFeeders.topo = s.topo :=
  Settles.foldl (fun s f =>
    have m := takeUpFeeder_moves s f
    ⟨⟨m.kept.mono (by decide), .inl (m.kept.modeOf (by decide)), fun g _ => takeUpFeeder_feeders s f g, takeUpFeeder_stands s f,
      fun p _ => .of_eq (m.kept.point (by decide) p)⟩, m.kept.topo (by decide)⟩) _ s

theorem takeUpPoints_settles : Settles [] [] [] s s.takeUpPoints ∧ s.takeUpPoints.topo = s.topo :=
  Settles.foldl (fun s p =>
    have m := takeUpPoint_moves s p
    ⟨⟨m.kept.mono (by decide), .inl (m.kept.modeOf (by decide)),
      fun g _ _ _ => ⟨m.kept.breaker (by decide) g, m.kept.lockout (by decide) g⟩, SectionsStand.of_moves m (by decide),
      fun q _ => takeUpPoint_stands s p q⟩, m.kept.topo (by decide)⟩) _ s

theorem takeUpDrain_settles : Settles [] [] [] s s.takeUpDrain where
  kept := (takeUpDrain_moves s).kept.mono (by decide)
  mode := by
    unfold State.takeUpDrain
    split
    · rename_i h
      exact .inr ⟨h.1, by simp [State.changeMode]⟩
    · exact .inl rfl
  feeders g _ _ _ := ⟨(takeUpDrain_moves s).kept.breaker (by decide) g, (takeUpDrain_moves s).kept.lockout (by decide) g⟩
  sections := SectionsStand.of_moves (takeUpDrain_moves s) (by decide)
  points p _ := .of_eq ((takeUpDrain_moves s).kept.point (by decide) p)

/-- What the end of an event can do. -/
theorem takeUp_settles : Settles [] [] [] s s.takeUp := by
  have h1 := takeUpFeeders_settles s
  have h2 := takeUpDrain_settles s.takeUpFeeders
  have h3 := takeUpPoints_settles s.takeUpFeeders.takeUpDrain
  exact (h1.1.then h2 h1.2).then h3.1 (((takeUpDrain_moves _).kept.topo (by decide)).trans h1.2)

theorem takeUp_topo : s.takeUp.topo = s.topo := (takeUp_moves s).kept.topo (by decide)

end Sys2Proof.Machine
end

