-- ==== Sys2Proof/Laws/Requests.lean ====
section
/-! SUPPORT. What an event and the dispatch of a request come to (R182, R183), said once for all commands. -/

namespace Sys2Proof.Machine

variable {s t : State}

/-! ## Events -/

theorem event_powered (act : State → State) (h : s.powered = true) : s.event act = (act s).transmit := by
  simp only [State.event, State.ifPowered, if_pos h]

theorem event_unpowered (act : State → State) (h : s.powered = false) : s.event act = s := by
  simp [State.event, State.ifPowered, h]

@[simp] theorem transmit_lnk : s.transmit.lnk = s.lnk.begin := rfl

theorem transmit_eq : s.transmit = { s with lnk := s.lnk.begin } := rfl

theorem transmit_kept (l : List Part) : KeptBut (.link :: l) s s.transmit := fun p hp => by
  cases p <;> simp_all [Part.same]

/-- An event whose act has raised `bs` and then `more`. -/
theorem says_of (act : State → State) (h : s.powered = true) {bs more : List NoticeBody}
    (hl : (act s).lnk = s.lnk.says s.now (bs ++ more)) : Says s (s.event act) bs :=
  ⟨more, by rw [event_powered act h, transmit_lnk, hl]⟩

theorem Settles.transmit {l : List Part} {fs : List FeederNo} {ps : List PointNo} (h : Settles l fs ps s t) :
    Settles l fs ps s t.transmit where
  kept := h.kept.trans (transmit_kept _)
  mode := h.mode
  feeders := h.feeders
  sections := h.sections
  points p hp := (h.points p hp).congr rfl

/-! ## The external reset input (R177) -/

theorem restartsNow_iff : s.restartsNow = true ↔ s.lnk.restart = .due ∧ s.pins.resetLine = false := by simp [State.restartsNow]

@[simp] theorem setResetLine_resetLine (asserted : Bool) : (s.setResetLine asserted).pins.resetLine = asserted := rfl
@[simp] theorem setResetLine_powered (asserted : Bool) : (s.setResetLine asserted).powered = s.powered := rfl
@[simp] theorem setResetLine_lnk (asserted : Bool) : (s.setResetLine asserted).lnk = s.lnk := rfl

theorem setResetLine_kept (asserted : Bool) : KeptBut [.pins] s (s.setResetLine asserted) := fun p hp => by
  cases p <;> simp_all [Part.same, State.setResetLine]

/-! ## Requests -/

@[simp] theorem dequeue_lnk : s.dequeue.lnk = s.lnk.taken := rfl

theorem dequeue_kept (l : List Part) : KeptBut (.link :: l) s s.dequeue := fun p hp => by
  cases p <;> simp_all [Part.same, State.dequeue]

theorem reply_kept (l : List Part) (kind tag : Byte) (a : Answer) : KeptBut (.link :: l) s (s.reply kind tag a) := fun p hp => by
  cases p <;> simp_all [Part.same, State.reply]

/-- A request that can be served comes to what its owner answers. -/
theorem request_served {α : Type} {i : Instr} {kind tag : Byte} {a : α} {serve : State → α → Answer × State} {ans : Answer} {u : State}
    (h : Ready s i) (hs : serve s.dequeue a = (ans, u)) :
    s.request i kind tag (some a) serve = (u.reply kind tag ans).transmit := by
  simp only [State.request, State.ifPowered, if_pos h.1, if_pos h.2, hs]

/-- A request with a wrong length is answered BAD_LENGTH and does nothing else. -/
theorem request_badLength {α : Type} {i : Instr} {kind tag : Byte} {serve : State → α → Answer × State} (h : Ready s i) :
    s.request i kind tag none serve = { s with lnk := s.lnk.answered kind tag (.bare .badLength) } := by
  simp only [State.request, State.ifPowered, if_pos h.1, if_pos h.2]
  rfl

/-- A request that cannot be dispatched changes nothing. -/
theorem request_waits {α : Type} {i : Instr} {kind tag : Byte} {args : Args α} {serve : State → α → Answer × State}
    (h : s.mayDispatch i = false) : s.request i kind tag args serve = s := by
  simp [State.request, State.ifPowered, h]

/-- A request whose owner answers from the state and changes nothing. -/
theorem request_only {α : Type} {i : Instr} {kind tag : Byte} {a : α} {serve : State → α → Answer × State} {ans : Answer}
    (h : Ready s i) (hs : serve s.dequeue a = (ans, s.dequeue)) :
    s.request i kind tag (some a) serve = { s with lnk := s.lnk.answered kind tag ans } := by
  rw [request_served h hs]
  rfl

/-- A request whose owner has raised `bs` and then `more`. -/
theorem answered_of {α : Type} {i : Instr} {kind tag : Byte} {a : α} {serve : State → α → Answer × State} {ans : Answer} {u : State}
    (h : Ready s i) (hs : serve s.dequeue a = (ans, u)) {bs more : List NoticeBody}
    (hl : u.lnk = s.lnk.taken.says s.now (bs ++ more)) : Answered s (s.request i kind tag (some a) serve) kind tag ans bs := by
  refine ⟨more, ?_⟩
  rw [request_served h hs, ← hl]
  rfl

end Sys2Proof.Machine
end

