-- ==== Sys2Proof/Tests/Slice0.lean ====
section
/-! SUPPORT. The part's own tests: well-formedness, wire layouts, worked examples of the spec, and for every statement with
hypotheses a state and operands that meet them. Expected results come from spec/, named in each docstring. -/

namespace Sys2Proof.Tests

open Sys2Proof Sys2Proof.Machine

-- One theorem at a time: elaborated all at once, they would each hold a thread while its forerunners are checked.
set_option Elab.async false

/-! ## Small states -/

/-- Section 0 with feeders 0 and 1, a point 0 on segments 0 (approach), 1 and 2 (legs), its entry gate 1 and exit gates 2 and 3, and
a PLAIN gate 0 into segment 0. -/
def junction : Topology :=
  { Topology.factory with
    feeders := (Topology.factory.feeders.set 0 ⟨true, some 0, .a⟩).set 1 ⟨true, some 0, .b⟩
    lists := Topology.factory.lists.set 0 [0, 1]
    gates := (((Topology.factory.gates.set 0 ⟨.plain, some 1, some 0⟩).set 1 ⟨.entry, some 0, some 0⟩).set 2
      ⟨.exit0, some 0, some 1⟩).set 3 ⟨.exit1, some 0, some 2⟩
    points := Topology.factory.points.set 0 ⟨true, 0, 1, 2, 1, 2, 3⟩ }

/-- The part in RUN on that topology, its transmitter idle, nothing locked and every breaker ready. -/
def running : State :=
  { State.reset with
    sst := { State.reset.sst with active := junction, mode := .run }
    ret := { State.reset.ret with locks := Vector.replicate 12 [] }
    pins := { State.reset.pins with ready := Vector.replicate 12 true }
    lnk := { State.reset.lnk with transmitting := none } }

/-- Feeder 0 with another breaker record. -/
def feeder (b : Breaker) : State := running.setBreaker 0 b

/-- Feeder 0 at rest in a state. -/
def resting (st : BState) : State := feeder (.rest st none)

/-- AUX of feeder 0 closed. -/
def auxClosed (s : State) : State := s.setAux 0 true

/-- Point 0 with another record. -/
def pointed (r : PointRec) : State := running.setPoint 0 r

/-- A confirmed point in SET at leg 0. -/
def atSet : PointRec := { PointRec.unfitted with state := .set, confirmed := true }

/-- A vehicle record in slot 0, at the head of segment 0. -/
def someVehicle : Vehicle := running.newVehicle (some 1234) 0 .unknown

/-- The part with that vehicle. -/
def tracking (v : Vehicle) : State := (running.setVehicle 0 (some v)).setQueue 0 [0]

/-- A state whose slot is empty, with no request queued and no RESTART accepted, can serve any request. -/
theorem ready_of {s : State} (i : Instr) (h1 : s.powered = true) (h2 : s.lnk.replySlot = none) (h3 : s.lnk.restart = .none)
    (h4 : s.lnk.requests = []) : Ready s i := ⟨h1, by simp [State.mayDispatch, h2, h3, h4]⟩

/-! ## Well-formedness: an ill-formed command for each check -/

theorem test_wellFormed_envelope_empty : (Instr.envelopeReceived []).wellFormed = false := by decide
theorem test_wellFormed_envelope_long : (Instr.envelopeReceived (List.replicate 245 0)).wellFormed = false := by decide +kernel
theorem test_wellFormed_badKind_real : (Instr.requestBadKind 0x10 0).wellFormed = false := by decide
theorem test_wellFormed_scan_short : (Instr.scanReceived [0x5A]).wellFormed = false := by decide
theorem test_wellFormed_telegram_short : (Instr.telegramReceived [0x54]).wellFormed = false := by decide
theorem test_wellFormed_write_long :
    (Instr.writeSettings 0 (some ⟨0, 0, List.replicate 48 ⟨1, 0⟩⟩)).wellFormed = false := by decide
theorem test_wellFormed_fleet_zero : (Instr.reservationExpiry 0 0).wellFormed = false := by decide
theorem test_wellFormed_fleet_high : (Instr.reservationExpiry 0 10000).wellFormed = false := by decide

/-! ## Bytes on the lines -/

/-- R15: the check value of the CRC over the nine digits 1 to 9. -/
theorem test_crc_check : crc16 [0x31, 0x32, 0x33, 0x34, 0x35, 0x36, 0x37, 0x38, 0x39] = 0x29B1 := by decide +kernel

/-- R182, R189: FEEDER_CLOSE is kind 0x10 with one byte. -/
theorem test_request_close : requestOf false [0x10, 7, 3] = some (.feederClose 7 (some 3)) := by decide

/-- R182: an argument too many is a wrong length. -/
theorem test_request_length : requestOf false [0x10, 7, 3, 0] = some (.feederClose 7 none) := by decide

/-- R189: 16-bit arguments go low byte first. -/
theorem test_request_watch : requestOf false [0x1F, 1, 0x03, 0x08, 0xF4, 0x01] = some (.watch 1 (some ⟨0x0803, 500⟩)) := by decide

/-- R189: a field entry is a field number and four bytes, low byte first. -/
theorem test_request_write :
    requestOf false [0x0C, 1, 1, 4, 4, 0x88, 0x13, 0, 0] = some (.writeSettings 1 (some ⟨1, 4, [⟨4, 5000⟩]⟩)) := by decide

/-- R189: no kind above 0x21. -/
theorem test_request_kind : requestOf false [0x22, 9] = some (.requestBadKind 0x22 9) := by decide

/-- R127: reader, fleet number low byte first, request and sum. -/
theorem test_telegram :
    telegramFrames 7 [0x54, 0x00, 0xD2, 0x04, 0x01, 0xD5] = ([⟨0, 1234, some .one⟩], []) := by decide

/-- R93, R189: the missing-pole mark is enumerated NONE, POSITIVE, NEGATIVE from 0. -/
theorem test_missing : ([Missing.none, .positive, .negative].map Enc.missing) = [[0], [1], [2]] := by decide

/-- R159: an OVERDUE adds the point and the exit leg. -/
theorem test_overdue_detail : Enc.faultDetail (.overdue 3 .one) = [3, 1] := by decide

/-! ## Worked examples -/

/-- 04, the example after R66: G 19 mS, C 18 mS, G_f 1 mS, PASS. -/
theorem test_line_pass : State.judgeSums .factory 3 178 8912 12480 = ⟨3, 178, 8912, 780, 19, 18, 1, .pass⟩ := by decide

/-- 04, the second example after R67: G 2000 mS, G_f 1982 mS, FAIL. -/
theorem test_line_fail : State.judgeSums .factory 3 608 304 12480 = ⟨3, 608, 304, 780, 2000, 18, 1982, .fail⟩ := by decide

/-- 03, the example after R48: five steps of a ramp from 1000 A by 500 A give the shadow content 68,203. -/
theorem test_shadow_example :
    [1500, 2000, 2500, 3000].foldl (fun h a => heatStep .factory h a) (heatStep .factory 0 1000) = 68203 := by decide

/-- 03, the same example: five steps of no current cool 80,000,000 to 79,980,780. -/
theorem test_cooling_example : (List.replicate 5 (0 : Int)).foldl (heatStep .factory) 80000000 = 79980780 := by decide

/-- R25: a ramp from 1000 A by 500 A passes 6000 A at position 11 and is then held there, marked saturated. -/
theorem test_ramp : ((⟨.ramp, 1000, 500, 14, 0, 0, none⟩ : Injection).value 10, (⟨.ramp, 1000, 500, 14, 0, 0, none⟩ : Injection).value 11)
    = (some ⟨6000, false⟩, some ⟨6000, true⟩) := by decide

/-- R140: STOP flashes at 250–375 ms and is dark at 375 ms. -/
theorem test_lamps_stop : (lampsOf .stop 374, lampsOf .stop 375) = ((false, false, true), (false, false, false)) := by decide

/-- R149: with the defaults, T_prove 900 s and T_grace 120 s, the level changes at 900, 1020 and 1140 s. -/
theorem test_levels : ([899999, 900000, 1020000, 1140000].map fun a => levelFor .factory a) = [.fresh, .due, .overdue, .lapsed] := by
  decide

/-- R158: FAULTED is set at 8 points. -/
theorem test_faulted : (({ someVehicle with suspicion := 4 }.faulted (.suspect 0) 0).turnsFaulted) = true := by decide

/-- 05, the example after R89: holder 31 joins an empty list. -/
theorem test_lock_add : (∃ t, exec (.lockAdd 5 (some ⟨7, 31⟩)) running = .next t ∧ t.locks 7 = [31]) := ⟨_, rfl, by decide +kernel⟩

/-- R178: after a power-on with a failing retained area every section holds the restart lock. -/
theorem test_restart_lock : (∃ t, exec (.powerOn false false false) running = .next t ∧ t.locks 11 = [0]) := ⟨_, rfl, by decide +kernel⟩

/-- R72: an accepted FEEDER_CLOSE asserts TEST. -/
theorem test_close_tests : (∃ t, exec (.feederClose 5 (some 0)) running = .next t ∧ t.testLine 0 = true) := ⟨_, rfl, by decide +kernel⟩

/-! ## Witnesses: states and operands that meet the hypotheses of the statements, clause by clause -/

/-- The reply slot taken. -/
def answering : State := { running with lnk := { running.lnk with replySlot := some ⟨2, 1, .ok, .none, false⟩ } }

/-- A request waiting in the queue. -/
def asked : State := { running with lnk := { running.lnk with requests := [[0x02, 9]] } }

/-- RESTART due. -/
def dueRestart : State := { running with lnk := { running.lnk with restart := .due } }

/-- The queue full of INFO notices. -/
def crowded : State := { running with lnk := { running.lnk with notices := List.replicate 32 ⟨.blindLeft 0 0, .info, 0⟩ } }

/-- A message in transmission. -/
def sending (m : Message) : State := { running with lnk := { running.lnk with transmitting := some m } }

/-- A mode. -/
def inMode (m : Mode) : State := { running with sst := { running.sst with mode := m } }

/-- In CONFIGURE with another working topology: feeder 0's fields changed. -/
def reworked (t : FeederTopo) : State :=
  { inMode .configure with sst := { (inMode .configure).sst with working :=
    { Settings.factory with feeders := (Settings.factory.feeders.set 0 { FeederSet.factory with topo := t }) } } }

/-- The part in BLIND. -/
def blinded : State := { running with scp := { running.scp with blind := true } }

/-- A feeder with a timer that is due at zone time 0. -/
def timed (st : BState) (f : Breaker → Breaker) : State := feeder (f (.rest st none))

/-- Gate 0 with another record. -/
def gated (r : GateRec) : State := running.setGate 0 r

theorem witness_EmptyQueueStep :
    ({ running with powered := false } : State).pending = [] ∧ dueRestart.pending = [] ∧ asked.pending = [] ∧ running.pending = [] ∧
    dueRestart.powered = true ∧ dueRestart.lnk.restart = .due ∧ dueRestart.pins.resetLine = false ∧
    (dueRestart.setResetLine true).pending = [] ∧ (dueRestart.setResetLine true).powered = true ∧
    (dueRestart.setResetLine true).pins.resetLine = true ∧ (dueRestart.setResetLine true).lnk.restart ≠ .none ∧
    asked.lnk.restart = .none ∧ asked.lnk.replySlot = none ∧ asked.lnk.requests = [[0x02, 9]] ∧
    answering.pending = [] ∧ answering.powered = true ∧ answering.lnk.restart ≠ .due ∧ answering.lnk.replySlot ≠ none ∧
    running.lnk.restart ≠ .due ∧ running.lnk.requests = [] ∧ (∀ payload ∈ running.lnk.requests.head?, payload.length < 2) ∧ reached (2 : Time) running.scp.overdueAt = true ∧
    ((timed .deadTime fun b => { b with deadTimer := some 1 }).breaker 0).deadTimer = some 1 ∧ reached (1 : Time) 1 = true ∧
    ((tracking { someVehicle with decay := some 1 }).vehicle 0).isSome = true ∧ running.fitted 0 = true := by
  decide +kernel

theorem witness_CommandsThatMustWait :
    ({ running with powered := false } : State).powered = false ∧ (∀ b r0 r1, Instr.status 1 none ≠ .powerOn b r0 r1) ∧
    requestKind (.status 1 (some ())) = some (0x02, 1) ∧ answering.powered = true ∧
    answering.mayDispatch (.status 1 (some ())) = false ∧ strapOf (.identify 1 none false) = some answering.pins.maint :=
  ⟨rfl, by simp, rfl, rfl, by decide +kernel, rfl⟩

theorem witness_WrongRequestsAreRefused :
    Ready running (.status 1 none) ∧ requestKind (.status 1 none) = some (0x02, 1) ∧ wrongLength (.status 1 none) = true ∧
    requestKind (.identify 1 none false) = some (0x01, 1) ∧ wrongLength (.identify 1 none false) = true ∧
    strapOf (.identify 1 none false) = some running.pins.maint ∧
    namesNone (.feederClose 1 (some 12)) = true ∧ namesNone (.readSegment 1 (some 32)) = true ∧
    namesNone (.readVehicle 1 (some 48)) = true ∧ namesNone (.readPoint 1 (some 16)) = true ∧
    namesNone (.incomerReset 1 (some 2)) = true ∧ namesNone (.readSettings 1 (some ⟨6, 0, 0⟩)) = true ∧
    namesNone (.vehicleRemove 1 (some ⟨1, 32⟩)) = true ∧ pointByte (.readPoint 1 (some 1)) = some 1 ∧ running.fitted 1 = false :=
  ⟨ready_of _ rfl rfl rfl rfl, by decide +kernel⟩

theorem witness_RequestsArrive :
    LinkBounded running ∧ running.lnk.rx = [] ∧ running.powered = true ∧ ([0x02, 1] : List Byte).length = 2 ∧
    (List.replicate 240 (0 : Byte)).length = 240 ∧ crc16 (1 :: ([2, 0, 0] : List Byte).take 1) ≠ checkAt [2, 0, 0] 1 ∧
    (∀ b ∈ (1 :: [2, 0, 0] : List Byte), b ≠ 0xC3) ∧ ¬240 < (240 : Byte).toNat ∧ 240 < (241 : Byte).toNat ∧
    ({ asked with lnk := { asked.lnk with requests := List.replicate 4 [] } } : State).lnk.requests.length = 4 :=
  ⟨by unfold LinkBounded; decide +kernel, by decide +kernel⟩

theorem witness_MessagesAreSent :
    running.lnk.enabled .alarm = true ∧ running.lnk.notices.length < 32 ∧ crowded.lnk.enabled .alarm = true ∧
    32 ≤ crowded.lnk.notices.length ∧ NoticeClass.info.rank < NoticeClass.alarm.rank ∧
    (∀ n ∈ crowded.lnk.notices, NoticeClass.info.rank ≤ n.cls.rank) ∧
    ({ running with lnk := { running.lnk with infoEnabled := false } } : State).lnk.enabled .info = false ∧
    (sending (.reply ⟨0x21, 1, .ok, .none, true⟩)).lnk.transmitting = some (.reply ⟨0x21, 1, .ok, .none, true⟩) ∧
    (sending (.reply ⟨0x02, 1, .ok, .none, false⟩)).lnk.restart ≠ .due ∧
    (sending (.notice ⟨.blindLeft 0 0, .alarm, 0⟩ false)).powered = true := by decide +kernel

theorem witness_LinkRequestsAnswer :
    Ready (running.withMaint true) (.identify 1 (some ()) true) ∧ Ready running (.status 1 (some ())) ∧
    Ready running (.noticeClasses 1 (some 4)) ∧ Ready running (.restart 1 (some ())) ∧ Ready running (.requestBadKind 0x22 1) ∧
    0x21 < (0x22 : Byte).toNat :=
  ⟨ready_of _ rfl rfl rfl rfl, ready_of _ rfl rfl rfl rfl, ready_of _ rfl rfl rfl rfl, ready_of _ rfl rfl rfl rfl,
    ready_of _ rfl rfl rfl rfl, by decide⟩

theorem witness_WatchIsTaken :
    Ready running (.watch 1 (some ⟨0x0FFF, 9⟩)) ∧ 4096 ≤ (0x1000 : BitVec 16).toNat ∧
    ({ running with lnk := { running.lnk with watchTimer := some 0 } } : State).lnk.watchTimer = some 0 ∧
    reached (0 : Time) 0 = true :=
  ⟨ready_of _ rfl rfl rfl rfl, by decide +kernel⟩

theorem witness_SettingsAreReadAndStored :
    Ready running (.readSettings 1 (some ⟨1, 0, 1⟩)) ∧ Ready running (.storeSettings 1 (some ())) ∧ running.sst.job = none ∧
    ({ running with sst := { running.sst with job := some ⟨.factory, 0, 0, 0⟩ } } : State).sst.job = some ⟨.factory, 0, 0, 0⟩ :=
  ⟨ready_of _ rfl rfl rfl rfl, ready_of _ rfl rfl rfl rfl, rfl, rfl⟩

theorem witness_SettingsAreWritten :
    Ready running (.writeSettings 1 (some ⟨0, 0, [⟨1, 60000⟩]⟩)) ∧ recordOf 6 0 = none ∧ recordOf 0 0 = some .zone ∧
    judgeWrite .factory .run false .zone ⟨0, 0, [⟨1, 60000⟩]⟩ = .accepted [60000, 2000] false ∧
    judgeWrite .factory .run true .zone ⟨0, 0, []⟩ = .refused .busy .blank ∧ recordOf 5 0 = some (.point 0) ∧
    judgeWrite .factory .run false (.point 0) ⟨5, 0, [⟨15, 60000⟩]⟩ =
      .accepted ((Settings.factory.values (.point 0)).set 14 60000) false ∧
    ((Settings.factory.put (.point 0) ((Settings.factory.values (.point 0)).set 14 60000)).points[0]).tProve = 60000 ∧
    (running.pointSet 0).tProve = 900000 ∧ running.fitted 0 = true ∧ (running.point 0).proving.level ≠ .lapsed ∧
    levelFor (running.pointSet 0) 900000 = .due ∧ levelFor { running.pointSet 0 with tProve := 60000 } 900000 = .lapsed ∧
    (∀ c : SectionNo, (running.sst.working.sections[c]).feeders.length ≤ 2) :=
  ⟨ready_of _ rfl rfl rfl rfl, by decide +kernel⟩

/-- R169: a timer below its range is clamped to its bound. -/
theorem witness_AcceptedWriteIsInRange :
    judgeWrite .factory .run false .zone ⟨0, 0, [⟨1, 59999⟩]⟩ = .accepted [60000, 2000] true ∧
    StrayField 2 [] ⟨0, 1⟩ ∧ StrayField 2 [] ⟨3, 1⟩ ∧ StrayField 2 [⟨2, 1⟩] ⟨2, 1⟩ ∧ ¬StrayField 2 [⟨1, 1⟩] ⟨2, 1⟩ ∧
    classAt (RecordId.feeder 0).specs 3 = some .topology ∧ classAt (RecordId.feeder 0).specs 4 = some .plain := by
  unfold StrayField
  decide +kernel

/-- A merged record, one of its fields out of range, and one with none. -/
theorem witness_merged :
    Merged .factory .zone [⟨1, 59999⟩] [59999, 2000] ∧ (∀ n, ¬OutOfRange .zone [59999, 2000] n) ∧
    Merged .factory (.segment 0) [⟨1, 12⟩] [12] ∧ OutOfRange (.segment 0) [12] 1 ∧ (∀ k, k < 1 → ¬OutOfRange (.segment 0) [12] k) := by
  refine ⟨⟨rfl, by decide +kernel, fun n h1 h2 h => ?_⟩, fun n ⟨h1, spec, hs, hc, _⟩ => ?_,
    ⟨rfl, by decide +kernel, fun n h1 h2 h => ?_⟩, ⟨by decide, topoField 0 11, rfl, by decide, by decide⟩, fun k hk h => ?_⟩
  · obtain rfl | rfl : n = 1 ∨ n = 2 := by simp [RecordId.specs, zoneFields] at h2; omega
    · simp at h
    · rfl
  · obtain rfl | rfl | hn : n = 1 ∨ n = 2 ∨ 2 < n := by omega
    · simp [RecordId.specs, zoneFields] at hs; subst hs; exact hc rfl
    · simp [RecordId.specs, zoneFields] at hs; subst hs; exact hc rfl
    · have hl : (RecordId.specs .zone).length ≤ n - 1 := by simp [RecordId.specs, zoneFields]; omega
      rw [List.getElem?_eq_none hl] at hs
      cases hs
  · obtain rfl : n = 1 := by simp [RecordId.specs, segmentFields] at h2; omega
    simp at h
  · have := h.1; omega

/-- The floor caps at 3000 A and one reclose, feeders at their defaults but for I_max 2000 A and no reclose. -/
def capped (m : Mode) (job : Option StoreJob) : State :=
  { inMode m with sst := { (inMode m).sst with job := job, working := { Settings.factory with
      floorCurrent := 3000, floorReclose := 1, feeders := Vector.replicate 12 { FeederSet.factory with iMax := 2000, nReclose := 0 } } } }

theorem witness_FloorsAreSet :
    (∀ a m, Ready ((capped m none).withMaint true) (.setFloor 1 (some a) true)) ∧
    Ready ((capped .run (some ⟨.factory, 0, 0, 0⟩)).withMaint false) (.setFloor 1 (some ⟨2000, 0⟩) false) ∧
    (199 : BitVec 16).toNat < 200 ∧ 6000 < (6001 : BitVec 16).toNat ∧ 3 < (4 : Byte).toNat ∧
    (capped .run none).sst.working.floorCurrent < (3001 : BitVec 16).toNat ∧ (capped .run none).sst.mode ≠ .configure ∧
    (capped .run none).sst.working.floorReclose < (2 : Byte).toNat ∧ (capped .configure none).sst.mode = .configure ∧
    (1999 : BitVec 16).toNat < ((capped .run none).feederSet 0).iMax ∧
    (∀ f, ¬(2000 : BitVec 16).toNat < ((capped .run none).feederSet f).iMax) :=
  ⟨fun _ _ => ready_of _ rfl rfl rfl rfl, ready_of _ rfl rfl rfl rfl, by decide +kernel⟩

theorem witness_ModesChange :
    Ready running (.setMode 1 (some 2)) ∧ Ready running (.setMode 1 (some 1)) ∧ Ready (inMode .draining) (.setMode 1 (some 0)) ∧
    running.sst.mode = .run ∧ (inMode .draining).sst.mode = .draining ∧ (inMode .draining).drained = true ∧
    running.drained = true ∧ (∀ f, (running.breaker f).state ≠ .deadTime) ∧
    ((resting .closing).setBreaker 1 (.rest .opened none)).drained = false :=
  ⟨ready_of _ rfl rfl rfl rfl, ready_of _ rfl rfl rfl rfl, ready_of _ rfl rfl rfl rfl, by decide +kernel⟩

theorem witness_RunTakesTheTopology :
    Ready (reworked ⟨true, none, .a⟩) (.setMode 1 (some 0)) ∧ (reworked ⟨true, none, .a⟩).sst.mode = .configure ∧
    (reworked ⟨true, none, .a⟩).sst.working.topology.firstFailure = some (1, 0, 1) ∧
    (reworked ⟨false, none, .b⟩).sst.working.topology.firstFailure = none ∧
    (reworked ⟨true, none, .a⟩).sst.working.topology.Fails 1 0 1 ∧
    InService ((reworked ⟨false, none, .b⟩).setBreaker 0 (.rest .closed none)) 0 ∧
    (∀ f, ¬InService (reworked ⟨false, none, .b⟩) f) := by
  refine ⟨ready_of _ rfl rfl rfl rfl, by decide +kernel, by decide +kernel, by decide +kernel,
    .inl ⟨rfl, 0, rfl, by decide +kernel, .inl ⟨rfl, by decide +kernel⟩⟩, ?_, ?_⟩ <;>
  · unfold InService
    decide +kernel

/-- In CONFIGURE with a topology active and another in the working set. -/
def relaid (old new : Topology) : State :=
  { inMode .configure with sst := { (inMode .configure).sst with
      active := old
      working := { Settings.factory with
        feeders := Vector.ofFn fun f : FeederNo => { Settings.factory.feeders[f] with topo := new.feeders[f] }
        sections := Vector.ofFn fun c : SectionNo => { Settings.factory.sections[c] with feeders := new.lists[c] }
        segments := new.segments
        gates := Vector.ofFn fun g : GateNo => { Settings.factory.gates[g] with topo := new.gates[g] }
        points := Vector.ofFn fun p : PointNo => { Settings.factory.points[p] with topo := new.points[p] } } } }

/-- The junction with its PLAIN gate 0 leading to another segment: gate 0 changes, all else stands. -/
def regated : Topology := { junction with gates := junction.gates.set 0 ⟨.plain, some 1, some 2⟩ }

/-- A change of one gate, which has a passage in flight and its stuck mark set, and a change from the factory topology: RUN is entered
from both; the tracking is kept in one and cleared in the other, where a feeder becomes enabled and a point fitted. -/
theorem witness_RunTakesTheTopology_enters :
    Ready (relaid junction regated) (.setMode 1 (some 0)) ∧ Ready (relaid .factory junction) (.setMode 1 (some 0)) ∧
    (relaid junction regated).sst.mode = .configure ∧ (relaid junction regated).sst.working.topology = regated ∧
    (relaid junction regated).sst.working.topology.firstFailure = none ∧ (∀ f, ¬InService (relaid junction regated) f) ∧
    ¬TracksStale (relaid junction regated) ∧ (relaid junction regated).topo.gates[0] ≠ regated.gates[0] ∧
    (((relaid junction regated).setGate 0 { GateRec.armed true false with state := .engaged, stuck := true }).gate 0).stuck = true ∧
    (relaid .factory junction).sst.working.topology.firstFailure = none ∧ (∀ f, ¬InService (relaid .factory junction) f) ∧
    TracksStale (relaid .factory junction) ∧ junction.feeders[0].enabled = true ∧ junction.points[0].fitted = true := by
  refine ⟨ready_of _ rfl rfl rfl rfl, ready_of _ rfl rfl rfl rfl, ?_⟩
  unfold InService TracksStale
  decide +kernel

/-- A topology that fails each of the other checks, at the record named. -/
theorem witness_checks :
    ({ junction with lists := junction.lists.set 0 [1] } : Topology).firstFailure = some (1, 0, 2) ∧
    ({ junction with lists := junction.lists.set 3 [1] } : Topology).firstFailure = some (2, 3, 3) ∧
    ({ junction with points := junction.points.set 0 ⟨true, 0, 0, 2, 1, 2, 3⟩ } : Topology).firstFailure = some (5, 0, 4) ∧
    ({ junction with points := junction.points.set 1 ⟨true, 0, 1, 2, 1, 2, 3⟩ } : Topology).firstFailure = some (5, 1, 5) ∧
    ({ junction with points := junction.points.set 0 ⟨true, 0, 1, 2, 0, 2, 3⟩ } : Topology).firstFailure = some (5, 0, 6) ∧
    ({ junction with points := junction.points.set 0 ⟨true, 0, 1, 2, 1, 2, 4⟩ } : Topology).firstFailure = some (5, 0, 7) ∧
    ({ junction with gates := junction.gates.set 0 ⟨.plain, some 0, some 0⟩ } : Topology).firstFailure = some (4, 0, 9) ∧
    ({ junction with gates := junction.gates.set 4 ⟨.entry, some 0, some 0⟩ } : Topology).firstFailure = some (4, 4, 10) ∧
    ({ junction with gates := junction.gates.set 0 ⟨.plain, some 0, some 5⟩ } : Topology).firstFailure = some (4, 0, 11) ∧
    ({ junction with gates := junction.gates.set 4 ⟨.plain, some 1, some 2⟩ } : Topology).firstFailure = some (4, 4, 12) ∧
    junction.firstFailure = none := by decide +kernel

/-- A part whose RESTART is due while RESET_LINE is asserted. -/
def heldRestart : State := dueRestart.setResetLine true

theorem witness_ResetsAreDone :
    dueRestart.powered = true ∧ dueRestart.lnk.restart = .due ∧ dueRestart.pins.resetLine = false ∧
    running.powered = true ∧ running.lnk.restart ≠ .due ∧ heldRestart.powered = true ∧ heldRestart.pins.resetLine = true := by
  decide +kernel

/-- R177: a RESET_LINE asserted before the RESTART's reset and released after its reply gives the reset in place of it. -/
theorem test_reset_line_replaces_restart :
    (match exec (.restartReset false false) heldRestart with | .next t => t.sst.cause | _ => .restart) = heldRestart.sst.cause ∧
    heldRestart.sst.cause ≠ .restart ∧
    (match exec (.resetLine false (false, false)) heldRestart with | .next t => t.sst.cause | _ => .restart) = .resetLine ∧
    (match exec (.resetLine false (false, false)) heldRestart with | .next t => t.lnk.restart | _ => .due) = .none := by
  decide +kernel

theorem witness_FeedersAreRead :
    Ready running (.readFeeder 1 (some 11)) ∧ (11 : Byte).toNat = (11 : FeederNo).val ∧ 16 ≤ (running.feederSet 11).iCont :=
  ⟨ready_of _ rfl rfl rfl rfl, by decide +kernel⟩

theorem witness_FeederIsClosed :
    Ready running (.feederClose 1 (some 0)) ∧ (0 : Byte).toNat = (0 : FeederNo).val ∧ running.enabled 0 = true ∧
    (running.breaker 0).state = .opened ∧ running.ready 0 = true ∧ running.sst.mode = .run ∧ running.scp.blind = false ∧
    (∀ c ∈ running.topo.feederSection 0, running.locks c = []) ∧ ¬(running.feederSet 0).hReclose < (running.protection 0).heat ∧
    (running.injection 0).pattern = .none :=
  ⟨ready_of _ rfl rfl rfl rfl, by decide +kernel⟩

theorem witness_FeederIsOpened :
    Ready (auxClosed (resting .closed)) (.feederOpen 1 (some 0)) ∧ (resting .closed).enabled 0 = true ∧
    ((auxClosed (resting .closed)).breaker 0).state = .closed ∧ (auxClosed (resting .closed)).aux 0 = true ∧
    Ready (resting .opening) (.feederOpen 1 (some 0)) ∧ ((resting .stuck).breaker 0).state = .stuck :=
  ⟨ready_of _ rfl rfl rfl rfl, by decide +kernel, by decide +kernel, by decide +kernel, ready_of _ rfl rfl rfl rfl, by decide +kernel⟩

theorem witness_FeederIsReset :
    Ready (resting .lockedOut) (.feederReset 1 (some 0)) ∧ (resting .lockedOut).enabled 0 = true ∧
    ((resting .lockedOut).breaker 0).state = .lockedOut ∧ ((resting .stuck).breaker 0).state = .stuck ∧
    (resting .stuck).aux 0 = false ∧ 12 ≤ (12 : Byte).toNat :=
  ⟨ready_of _ rfl rfl rfl rfl, by decide +kernel⟩

theorem witness_IncomerLatchIsReset :
    Ready running (.incomerReset 1 (some 0)) ∧ Ready running (.incomerReset 1 (some 1)) ∧ running.powered = true ∧
    (auxClosed (resting .stuck)).enabled 0 = true ∧ ((auxClosed (resting .stuck)).breaker 0).state = .stuck ∧
    (auxClosed (resting .stuck)).aux 0 = true :=
  ⟨ready_of _ rfl rfl rfl rfl, ready_of _ rfl rfl rfl rfl, by decide +kernel⟩

/-- A scan of zeros with the check that R15 gives it, and one with another check. -/
def zeroScan (check : List Byte) : List Byte := 0x5A :: List.replicate 53 0 ++ check

/-- A scan of zeros that passes its check (R15). -/
def goodScan : List Byte := zeroScan [(crc16 (List.replicate 53 0) >>> 8).setWidth 8, (crc16 (List.replicate 53 0)).setWidth 8]

/-- Feeder 0 under a ramp of a length. -/
def injecting (length : Nat) : State := running.setInjection 0 ⟨.ramp, 1000, 500, length, 0, 0, none⟩

/-- A ramp of the greatest slope and length. -/
def ramp : InjectArgs := ⟨0, 2, 6000, 2000, 60000, 0⟩

theorem witness_InjectionIsTaken :
    Ready running (.inject 1 (some ramp)) ∧ ramp.feeder.toNat = (0 : FeederNo).val ∧ ramp.pattern.toNat ≤ 2 ∧
    ramp.base.toInt ≤ 6000 ∧ ramp.length.toNat ≤ 60000 ∧ ramp.levelOrSlope.toInt ≤ 2000 ∧ running.enabled 0 = true ∧
    (running.breaker 0).state = .opened ∧ running.aux 0 = false ∧ running.scp.blind = false ∧
    (running.scp.injection[0]).last = none ∧ (injecting 1).scp.rx = [] ∧ goodScan.length = 56 ∧ goodScan.head? = some 0x5A ∧
    crc16 ((goodScan.drop 1).take 53) = checkAt goodScan 54 ∧ ((injecting 1).injection 0).pattern ≠ .none ∧
    ((injecting 1).injection 0).length ≤ ((injecting 1).injection 0).position + 1 ∧
    ¬((injecting 2).injection 0).length ≤ ((injecting 2).injection 0).position + 1 ∧ (injecting 2).scp.blind = false :=
  ⟨ready_of _ rfl rfl rfl rfl, by decide +kernel⟩

theorem witness_LocksAreAdded :
    Ready running (.lockAdd 1 (some ⟨11, 250⟩)) ∧ (11 : Byte).toNat = (11 : SectionNo).val ∧ ¬250 < (250 : Byte).toNat ∧
    250 ∉ running.locks 11 ∧ running.locks 11 = [] ∧ 12 ≤ (12 : Byte).toNat ∧
    (∀ f ∈ running.topo.enabledFeeders 0, (running.breaker f).state = .opened) :=
  ⟨ready_of _ rfl rfl rfl rfl, by decide +kernel⟩

theorem witness_LocksAreRemoved :
    Ready .reset (.lockRemove 1 (some ⟨0, 0⟩)) ∧ State.reset.locks 0 = [] ++ 0 :: [] ∧ (0 : Nat) ∉ ([] ++ [] : List Nat) ∧
    250 < (251 : Byte).toNat :=
  ⟨ready_of _ rfl rfl rfl rfl, by decide +kernel⟩

theorem witness_AccountIsRead :
    Ready running (.readSection 1 (some 11)) ∧ Ready running (.readSegment 1 (some 31)) ∧ Ready running (.readVehicle 1 (some 47)) ∧
    Ready running (.findVehicle 1 (some 9999)) ∧ (47 : Byte).toNat = (47 : SlotNo).val ∧ (9999 : BitVec 16).toNat ≤ 9999 ∧
    (tracking someVehicle).vehicle 0 = some someVehicle ∧ someVehicle.fleet = some 1234 ∧
    (∀ n : SlotNo, running.vehicle n = none) :=
  ⟨ready_of _ rfl rfl rfl rfl, ready_of _ rfl rfl rfl rfl, ready_of _ rfl rfl rfl rfl, ready_of _ rfl rfl rfl rfl, by decide +kernel⟩

theorem witness_VehicleIsPlaced :
    Ready running (.vehiclePlace 1 (some ⟨31, 9999, 0⟩)) ∧ (31 : Byte).toNat = (31 : SegmentNo).val ∧
    (∀ n : SlotNo, running.vehicle n = none) ∧ (running.queue 31).length < 8 ∧ 9999 < (10000 : BitVec 16).toNat ∧
    (tracking someVehicle).vehicle 0 = some someVehicle ∧ (1234 : BitVec 16).toNat = 1234 :=
  ⟨ready_of _ rfl rfl rfl rfl, by decide +kernel⟩

theorem witness_VehicleIsRemoved :
    Ready (tracking someVehicle) (.vehicleRemove 1 (some ⟨0, 0⟩)) ∧ (tracking someVehicle).vehicle 0 = some someVehicle ∧
    (tracking someVehicle).topo.pointOfApproach 0 = some 0 ∧ running.vehicle 47 = none ∧ (2 : Byte) ≠ 0 ∧ (2 : Byte) ≠ 1 ∧
    (running.setUntracked 31 1).untracked 31 ≠ 0 :=
  ⟨ready_of _ rfl rfl rfl rfl, by decide +kernel⟩

theorem witness_VehicleIsCleared :
    Ready (tracking someVehicle) (.vehicleClear 1 (some 0)) ∧ (tracking someVehicle).vehicle 0 = some someVehicle ∧
    (tracking someVehicle).vehicle 47 = none ∧ 48 ≤ (48 : Byte).toNat :=
  ⟨ready_of _ rfl rfl rfl rfl, by decide +kernel⟩

theorem witness_SuspicionRisesAndDecays :
    (tracking { someVehicle with suspicion := 8, decay := some 0 }).vehicle 0 =
      some { someVehicle with suspicion := 8, decay := some 0 } ∧ isDue (0 : Time) (some 0) = true ∧
    (tracking { someVehicle with suspicion := 1, decay := some 0 }).vehicle 0 =
      some { someVehicle with suspicion := 1, decay := some 0 } ∧ isDue (0 : Time) someVehicle.decay = false ∧
    running.vehicle 0 = none ∧ running.holder 1 = none := by decide +kernel

/-- A gate whose passage ends when the positive contact's deactivation is accepted. -/
def passing (g : GateNo) : State := running.setGate g
  { GateRec.armed true false with state := .engaged, posSeen := true, negSeen := true, posWait := some 0 }

/-- Segment 1 holds a vehicle that gate 0 leads into segment 0. -/
def leaving : State := (running.setVehicle 0 (some { someVehicle with segment := 1 })).setQueue 1 [0]

theorem witness_CompletionsMoveTheHead :
    (leaving.topo.gates[0]).src = some 1 ∧ (leaving.topo.gates[0]).dst = some 0 ∧ leaving.queue 1 = [0] ∧
    leaving.vehicle 0 = some { someVehicle with segment := 1 } ∧ (leaving.queue 0).length < 8 ∧
    (leaving.setQueue 0 (List.replicate 8 0)).queue 0 = List.replicate 8 0 ∧ running.queue 1 = [] ∧
    0 < (running.setUntracked 1 7).untracked 1 ∧ running.untracked 1 = 0 ∧ running.vehicle 0 = none ∧ (∀ m : SlotNo, ¬m < 0) ∧
    (∀ n, ({ running with vtr := { running.vtr with slots := Vector.replicate 48 (some someVehicle) } } : State).vehicle n ≠ none) ∧
    Accepts (passing 0) 0 .positive false ∧ PassageEnds (passing 0) 0 .positive ∧ (running.topo.gates[0]).role = .plain ∧
    Accepts (passing 2) 2 .positive false ∧ PassageEnds (passing 2) 2 .positive ∧ running.topo.exitPoint 2 = some (0, .zero) ∧
    Accepts (passing 1) 1 .positive false ∧ PassageEnds (passing 1) 1 .positive ∧ (running.topo.gates[1]).role = .entry ∧
    ((pointed { atSet with queue := [⟨0, .one, .default, none, none⟩] }).point 0).queue = ⟨0, .one, .default, none, none⟩ :: [] ∧
    (running.point 0).queue = [] := by
  unfold Accepts PassageEnds
  decide +kernel

theorem witness_PointRequestsAreServed :
    Ready running (.readPoint 1 (some 0)) ∧ Ready running (.pointRoute 1 (some ⟨0, 2⟩)) ∧ running.fitted 0 = true ∧
    Ready (pointed atSet) (.pointExercise 1 (some 0)) ∧ ((pointed atSet).point 0).state = .set :=
  ⟨ready_of _ rfl rfl rfl rfl, ready_of _ rfl rfl rfl rfl, by decide +kernel, ready_of _ rfl rfl rfl rfl, by decide +kernel⟩

/-- The detectors of point 0 prove leg 1. -/
def proving (r : PointRec) : State := (pointed r).setDetectors 0 false true

theorem witness_PointServiceIsTaken :
    Ready (proving { atSet with state := .outOfService }) (.pointService 1 (some ⟨0, 1⟩)) ∧
    (proving { atSet with state := .outOfService }).provenLeg 0 = some .one ∧ (pointed atSet).provenLeg 0 = none ∧
    ((pointed { atSet with state := .moving }).point 0).state = .moving ∧ 1 < (2 : Byte).toNat :=
  ⟨ready_of _ rfl rfl rfl rfl, by decide +kernel⟩

theorem witness_PointIsResetAndZoneConfirmed :
    Ready (proving { atSet with state := .failed }) (.pointReset 1 (some 0)) ∧
    ((proving { atSet with state := .failed }).point 0).state = .failed ∧
    (proving { atSet with state := .failed }).provenLeg 0 = some .one ∧ (pointed atSet).provenLeg 0 = none ∧
    Ready (pointed { atSet with state := .unknown, confirmed := false }) (.zoneClear 1 (some 0)) ∧
    ((pointed { atSet with state := .unknown, confirmed := false }).point 0).confirmed = false ∧
    ((pointed atSet).point 0).confirmed = true :=
  ⟨ready_of _ rfl rfl rfl rfl, by decide +kernel, by decide +kernel, by decide +kernel, ready_of _ rfl rfl rfl rfl, by decide +kernel⟩

/-- R133: a demanded movement of a confirmed point in SET goes to the other leg. -/
theorem witness_MovementsAndExercisesStart :
    (pointed { atSet with proofDemand := true }).movementTarget 0 = some .one ∧ (pointed atSet).movementTarget 0 = none ∧
    (pointed { atSet with proving := { Proving.start 0 with level := .overdue } }).exerciseDue 0 = true ∧
    (pointed { atSet with proving := { Proving.start 0 with phase := .returnWait } }).returnDue 0 = true ∧
    running.powered = true := by decide +kernel

theorem witness_DetectorsAreWatched :
    running.powered = true ∧ running.fitted 0 = true ∧ running.fitted 1 = false ∧
    ((pointed { atSet with state := .moving }).point 0).state = .moving := by decide +kernel

theorem witness_MovementsEnd :
    isDue (0 : Time) ((pointed { atSet with state := .moving, arrivalWait := some 0 }).point 0).arrivalWait = true ∧
    isDue (0 : Time) ((pointed { atSet with state := .moving, moveTimer := some 0 }).point 0).moveTimer = true ∧
    isDue (0 : Time) ((pointed { atSet with detectionWait := some 0 }).point 0).detectionWait = true ∧
    (pointed atSet).fitted 0 = true := by decide +kernel

/-- Point 0 at the end of an outbound movement. -/
def outbound : State :=
  pointed { atSet with
    state := .moving, leg := .one, arrivalWait := some 0, proving := { Proving.start 0 with phase := .outbound, home := .zero } }

/-- An OUTBOUND arrival with the zone queue empty, in RUN and in DRAINING; one with an entry in the zone; any other arrival. -/
theorem witness_MovementsEnd_phase :
    isDue (0 : Time) (outbound.point 0).arrivalWait = true ∧ (outbound.point 0).proving.phase = .outbound ∧
    (outbound.point 0).queue = [] ∧ (outbound.point 0).serviceOut = false ∧ outbound.sst.mode = .run ∧
    ({ outbound with sst := { outbound.sst with mode := .draining } } : State).sst.mode ≠ .run ∧
    ((pointed { outbound.point 0 with queue := [⟨0, .zero, .default, none, none⟩] }).point 0).queue ≠ [] ∧
    ((pointed { atSet with state := .moving, arrivalWait := some 0 }).point 0).proving.phase ≠ .outbound := by decide +kernel

/-- R153, R154: in RUN the outbound arrival is followed by the return to the leg it came from. -/
theorem test_outbound_returns :
    (∃ t, exec (.arrivalWaitExpiry 0) outbound = .next t ∧ (t.point 0).proving.phase = .returning ∧ (t.point 0).leg = .zero) :=
  ⟨_, rfl, by decide +kernel⟩

theorem witness_OverdueIsHandedOn :
    ((pointed { atSet with queue := [⟨0, .zero, .default, some 0, some 0⟩] }).point 0).queue =
      ⟨0, .zero, .default, some 0, some 0⟩ :: [] ∧ isDue (0 : Time) (some 0) = true ∧
    (pointed atSet).fitted 0 = true ∧ ((pointed atSet).point 0).queue.head? = none := by decide +kernel

theorem witness_ProvingIsJudged :
    (running.pointSet 0).tProve = 900000 ∧ (running.pointSet 0).tGrace = 120000 ∧ running.fitted 0 = true ∧
    (running.point 0).proving.level ≠ .lapsed ∧
    ((pointed { atSet with proving := { Proving.start 0 with level := .lapsed } }).point 0).proving.level = .lapsed ∧
    isDue (0 : Time) ((pointed { atSet with proving := { Proving.start 0 with quietTimer := some 0 } }).point 0).proving.quietTimer
      = true := by decide +kernel

theorem witness_TelegramsAreTaken :
    running.powered = true ∧ running.ptc.rx = [] ∧
    0x54 + BitVec.ofNat 8 (0 : PointNo).val + 0x0F + 0x27 + 2 + 0x74 = (0 : Byte) ∧
    (0x0F : Byte).toNat + 256 * (0x27 : Byte).toNat = 9999 ∧
    0x54 + 16 + 1 + 0 + 0 + 0x9B = (0 : Byte) ∧ 15 < (16 : Byte).toNat ∧
    0x54 + 0 + 0x10 + 0x27 + 0 + 0x75 = (0 : Byte) ∧ 9999 < (0x10 : Byte).toNat + 256 * (0x27 : Byte).toNat ∧
    (∀ b ∈ ([0x53] : List Byte), b ≠ 0x54) ∧ 0x54 + 0 + 0x0F + 0x27 + 2 + 0x75 ≠ (0 : Byte) ∧
    (∃ q ∈ ((pointed { atSet with reservations := [⟨9999, none, 0, 0⟩] }).point 0).reservations,
      q.fleet = 9999 ∧ reached (0 : Time) q.expires = true) := by
  decide +kernel

/-- Point 0 shows STOP, its detectors proving no leg. -/
theorem witness_AspectsAreDerived : AspectsShown (pointed { atSet with aspect := .stop }) := by
  intro _ p hp
  have h0 : ∀ p, (pointed { atSet with aspect := .stop }).fitted p = true → p = 0 := by decide +kernel
  obtain rfl := h0 p hp
  have hs : ((pointed { atSet with aspect := .stop }).point 0).aspect = .stop := by decide +kernel
  refine ⟨?_, fun l e h => ?_⟩
  · have hd : (pointed { atSet with aspect := .stop }).provenLeg 0 ≠ some ((pointed { atSet with aspect := .stop }).point 0).leg := by
      decide +kernel
    have hset : ((pointed { atSet with aspect := .stop }).point 0).state = .set := by decide +kernel
    simp only [hset, hs]
    rw [if_pos (Or.inl hd)]
  · simp [hs] at h

/-- The positive contact of the entry gate of confirmed point 0 about to be accepted as active. -/
def arriving (g : GState) : State := ((pointed atSet).setGate 1
  { GateRec.armed false false with state := g, posWait := some 0 }).setGateInput 1 .positive true

theorem witness_ContactsAreAccepted :
    isDue (0 : Time) ((gated { GateRec.armed false false with posWait := some 0 }).stability 0 .positive) = true ∧
    ((gated { GateRec.armed false false with posWait := some 0 }).setGateInput 0 .positive true).contactInput 0 .positive = true ∧
    (gated { GateRec.armed false false with posWait := some 0 }).acceptedLevel 0 .positive = false ∧
    running.topo.isUsed 0 = true ∧ running.topo.isUsed 4 = false ∧ isDue (0 : Time) (running.stability 0 .positive) = false ∧
    Accepts (arriving .armed) 1 .positive true ∧ ((arriving .armed).gate 1).state = .armed ∧ running.topo.entryPoint 1 = some 0 ∧
    Accepts (arriving .engaged) 1 .positive true ∧ ((arriving .engaged).gate 1).posSeen = false ∧
    (arriving .armed).topo.isUsed 1 = true ∧ ((arriving .armed).point 0).confirmed = true ∧
    engagedBy ((arriving .armed).setQueue 0 [5]) 1 = some 5 ∧ engagedBy (arriving .armed) 1 = none ∧
    ((running.setPoint 0 { atSet with queue := List.replicate 3 ⟨0, .zero, .default, none, none⟩ }).point 0).queue.length = 3 := by
  unfold Accepts
  decide +kernel

/-- A gate engaged on its positive contact, both timers due. -/
def engagedGate : GateRec :=
  { GateRec.armed true false with state := .engaged, posSeen := true, poleTimer := some 0, stuckTimer := some 0 }

/-- Slots 0 and 1 stand in segment 0 with these fleet numbers, the entry gate of point 0 engaged. -/
def atEntry (first second : Option Nat) : State :=
  ((((running.setVehicle 0 (some { someVehicle with fleet := first })).setVehicle 1 (some { someVehicle with fleet := second })).setQueue
    0 [0, 1]).setGate 1 { GateRec.armed true false with state := .engaged })

/-- The cases in which a bound number 7 is reconciled at the entry of point 0. -/
theorem witness_vehicleAtEntry :
    ((atEntry none none).gate (running.topo.points[0]).entry).state ≠ .armed ∧ (running.topo.points[0]).approach = 0 ∧
    ((atEntry none none).queue 0)[((atEntry none none).point 0).queue.length]? = some 0 ∧ ((passing 1).queue 0)[0]? = none ∧
    0 < ((passing 1).setUntracked 0 1).untracked 0 ∧ (passing 1).untracked 0 = 0 ∧
    ((atEntry (some 7) none).vehicle 0).map (·.fleet) = some (some 7) ∧
    ((atEntry (some 8) (some 7)).vehicle 1).map (·.fleet) = some (some 7) ∧
    ((atEntry none (some 9)).vehicle 0).map (·.fleet) = some none ∧
    (((atEntry none (some 9)).setVehicle 5 (some { someVehicle with fleet := some 7, segment := 3 })).vehicle 5).map (·.fleet) =
      some (some 7) ∧
    ((atEntry (some 8) (some 9)).vehicle 0).map (·.fleet) = some (some 8) ∧
    (((passing 1).setVehicle 5 (some { someVehicle with fleet := some 7, segment := 3 })).vehicle 5).map (·.fleet) = some (some 7) :=
  by decide +kernel

theorem witness_GateTimersExpire :
    (gated engagedGate).topo.isUsed 0 = true ∧ ((gated engagedGate).gate 0).state = .engaged ∧
    isDue (0 : Time) ((gated engagedGate).gate 0).poleTimer = true ∧ isDue (0 : Time) ((gated engagedGate).gate 0).stuckTimer = true ∧
    ((gated engagedGate).gate 0).posSeen ≠ ((gated engagedGate).gate 0).negSeen ∧ (gated engagedGate).holder 0 = none ∧
    ((gated engagedGate).gate 0).posLevel = true ∧ (running.topo.gates[0]).role = .plain ∧
    ((running.setGate 1 { engagedGate with posSeen := false, negSeen := true }).gate 1).posSeen = false ∧
    (({ tracking { someVehicle with gate := some 0 } with gsc := (gated engagedGate).gsc } : State).holder 0) = some 0 := by
  decide +kernel

/-- A gate in ENGAGED whose pole timer has come with both contacts idle, the positive pole seen or not. -/
def idleGate (seen : Bool) (g : GateNo) : State :=
  running.setGate g { engagedGate with posSeen := seen, negSeen := !seen, posLevel := false, negLevel := false, stuck := true }

/-- Such gates of every role: PLAIN, an exit gate of point 0 with its zone queue empty or not, and an ENTRY gate, the report of which
has been given or is still to follow, no record or one holding it, the zone unconfirmed, overfull or neither. -/
theorem witness_GateTimersExpire_idle :
    ((idleGate true 0).gate 0).posLevel = false ∧ ((idleGate true 0).gate 0).negLevel = false ∧ ((idleGate true 0).gate 0).stuck = true ∧
    ((idleGate true 0).topo.gates[0]).role = .plain ∧ (idleGate true 2).topo.exitPoint 2 = some (0, .zero) ∧
    ((idleGate true 2).point 0).queue = [] ∧
    ((pointed { atSet with queue := [⟨0, .one, .default, none, none⟩] }).point 0).queue = ⟨0, .one, .default, none, none⟩ :: [] ∧
    ((idleGate true 1).topo.gates[1]).role = .entry ∧ ((idleGate true 1).gate 1).posSeen = true ∧
    ((idleGate false 1).gate 1).posSeen = false ∧ (idleGate false 1).topo.entryPoint 1 = some 0 ∧ (idleGate true 1).holder 1 = none ∧
    (tracking { someVehicle with gate := some 1 }).vehicle 0 = some { someVehicle with gate := some 1 } ∧
    ((idleGate false 1).point 0).confirmed = false ∧ ((pointed atSet).point 0).confirmed = true ∧
    ((pointed { atSet with queue := List.replicate 3 ⟨0, .one, .default, none, none⟩ }).point 0).queue.length = 3 := by
  decide +kernel

/-- R109: a record that holds an ENTRY gate gives it up as the pole timer completes the passage. -/
theorem test_pole_timer_entry :
    (∃ t, exec (.poleTimerExpiry 1) { tracking { someVehicle with gate := some 1 } with gsc := (idleGate true 1).gsc } = .next t ∧
      ((t.vehicle 0).map fun v => v.gate) = some none ∧ (t.gate 1).state = .armed) := ⟨_, rfl, by decide +kernel⟩

/-- R136: an exit whose negative pole was missed takes the head of the zone queue with it. -/
theorem test_pole_timer_exit :
    (∃ t, exec (.poleTimerExpiry 2) ((idleGate true 2).setPoint 0 { atSet with queue := [⟨0, .zero, .default, none, none⟩] }) = .next t ∧
      (t.point 0).queue = [] ∧ (t.gate 2).missing = .negative) := ⟨_, rfl, by decide +kernel⟩

theorem witness_ScansAreTaken :
    running.scp.rx = [] ∧ goodScan.length = 56 ∧ scanGood goodScan = true ∧ running.topo.enabledFeeders 0 ≠ [] ∧
    running.topo.enabledFeeders 1 = [] ∧ running.topo.feederSection 0 = some 0 ∧ running.topo.feederSection 5 = none ∧
    ({ blinded with scp := { blinded.scp with validRun := 15, last := { Scan.blank with seq := some 15 } } } : State).scp.validRun = 15 ∧
    (byteAt goodScan 1).setWidth 4 = (15 : BitVec 4) + 1 ∧ (running.validMeasurement .blank false false).held = false ∧
    (running.validMeasurement .blank false false).blind = false ∧ (running.validMeasurement .blank false true).blind = true ∧
    (running.heldMeasurement.held = true) ∧
    energyAfter .factory ⟨false, 0, 9, 0, 9, false, false, false⟩ 700 = true ∧
    energyAfter .factory ⟨true, 0, 0, 9, 0, true, false, false⟩ 10 = false ∧
    scanGood (zeroScan [0, 0]) = false ∧ (∀ b ∈ (zeroScan [0, 0]).tail, b ≠ 0x5A) ∧
    reached (0 : Time) running.scp.overdueAt = false ∧ blinded.scp.blind = true ∧
    reached (0 : Time) ({ running with scp := { running.scp with overdueAt := 0, heldRun := 3 } } : State).scp.overdueAt = true := by
  decide +kernel

theorem witness_ThermalContentSteps :
    (running.topo.feeders[0]).enabled = true ∧ running.heldMeasurement.blind = false ∧
    (running.validMeasurement .blank true true).blind = true := by decide +kernel

/-- A step under injection has a shadow content to judge. -/
theorem witness_DetectorsStepAndDecide :
    (({ running.protection 0 with shadow := some 5 } : Protection).advance .factory .inSequence ⟨0, false⟩ ⟨0, false⟩).shadow.isSome =
      true ∧ (some (⟨0, false⟩ : Sample)).getD ⟨9, false⟩ = ⟨0, false⟩ := by decide +kernel

/-- Feeder 0 CLOSED with one overcurrent step behind it. -/
def tripping : State :=
  (auxClosed (resting .closed)).setProtection 0 { running.protection 0 with inst := ⟨1, 5000, false⟩ }

/-- R33: the second step over I_max trips. -/
theorem witness_TripsOn :
    TripsOn tripping (tripping.validMeasurement { Scan.blank with current := Vector.replicate 12 ⟨5000, false⟩ } false false) 0
      ⟨.inst, 5000, false, none⟩ ∧ reached tripping.now ({ tripping.scp with overdueAt := 0 } : Scp).overdueAt = true ∧
    (∀ g, tripping.topo.partner g = some 0 → g = 1) := by
  unfold TripsOn
  decide +kernel

theorem witness_TripsAreTaken :
    ((auxClosed (resting .closed)).breaker 0).state = .closed ∧ (auxClosed (resting .closed)).aux 0 = true ∧
    (running.breaker 0).state ≠ .closed ∧ (running.breaker 0).state ≠ .closing ∧ running.topo.partner 0 = some 1 ∧
    (((resting .closed).setBreaker 1 (.rest .closed none)).breaker 1).state = .closed := by decide +kernel

/-- Feeders 0 and 1 CLOSED with AUX of both already open, at given attempt counts. -/
def openBoth (a b : Nat) : State :=
  (feeder { Breaker.rest .closed none with attempts := a }).setBreaker 1 { Breaker.rest .closed none with attempts := b }

/-- R54, R56, R59: trips with AUX open: attempts left or none, the lead locked out by its own intertrip, the partner with AUX closed
or open, and one that waits in DEAD_TIME behind the feeder. -/
theorem witness_TripsAreTaken_open :
    ((openBoth 0 0).breaker 0).state = .closed ∧ (openBoth 0 0).aux 0 = false ∧ (openBoth 0 0).aux 1 = false ∧
    ((openBoth 0 0).feederSet 0).nReclose = 2 ∧ ((openBoth 2 0).breaker 0).attempts = 2 ∧ (openBoth 0 0).effectiveLimit 1 = 2 ∧
    LeadLocksOut (openBoth 2 0) 1 .inst ∧ ¬LeadLocksOut (openBoth 0 0) 1 .inst ∧ (openBoth 0 0).topo.partner 1 = some 0 ∧
    ((openBoth 0 0).setAux 1 true).aux 1 = true ∧ (((openBoth 2 0).setBreaker 1 (.rest .deadTime none)).breaker 1).state = .deadTime ∧
    (openBoth 2 0).topo.leadOf 1 = some 0 := by
  refine ⟨by decide +kernel, by decide +kernel, by decide +kernel, by decide +kernel, by decide +kernel, by decide +kernel,
    ⟨.inl rfl, 0, by decide +kernel⟩, ?_, by decide +kernel⟩
  rintro ⟨-, g, hl, -, -, -, -, ha⟩
  obtain rfl : (0 : FeederNo) = g := by
    have : (openBoth 0 0).topo.leadOf 1 = some 0 := by decide +kernel
    exact Option.some.inj (this.symm.trans hl)
  exact absurd ha (by decide +kernel)

/-- R54, R56: a decision that finds AUX open leads at once to DEAD_TIME, and with it the intertripped partner. -/
theorem test_trip_aux_open :
    (((openBoth 0 0).handDecision 0 ⟨.inst, 0, 5000, false, none, 0⟩ (Vector.replicate 12 ⟨0, false⟩)).breaker 0).state = .deadTime ∧
    (((openBoth 0 0).handDecision 0 ⟨.inst, 0, 5000, false, none, 0⟩ (Vector.replicate 12 ⟨0, false⟩)).breaker 1).state = .deadTime ∧
    ((openBoth 2 0).handDecision 0 ⟨.delta, 0, 5000, false, none, 0⟩ (Vector.replicate 12 ⟨0, false⟩)).lockout 0 = some .noReclose ∧
    ((openBoth 2 0).handDecision 1 ⟨.inst, 0, 5000, false, none, 0⟩ (Vector.replicate 12 ⟨0, false⟩)).lockout 1 = some .partner := by
  decide +kernel

/-- The measurement that trips feeder 0, with AUX already open. -/
theorem witness_TripsOn_open :
    TripsOn (tripping.setAux 0 false) ((tripping.setAux 0 false).validMeasurement
      { Scan.blank with current := Vector.replicate 12 ⟨5000, false⟩ } false false) 0 ⟨.inst, 5000, false, none⟩ ∧
    (tripping.setAux 0 false).aux 0 = false := by
  unfold TripsOn
  decide +kernel

/-- R165: feeder 0, OPENING on INST, has the FAULTED vehicle of segment 0 among its candidates: its sequence is limited. -/
theorem test_shared_faulted :
    (((((tracking { someVehicle with flags := { someVehicle.flags with faulted := true } }).setBreaker 0
      { Breaker.rest .opening none with inSequence := true, cause := .trip .inst }).shareFaulted 0).breaker 0).limited = true) := by
  decide +kernel

/-- R165: the step that trips, and the cause it leaves, on the line. -/
theorem witness_TripsAreTaken_shared :
    tripping.enabled 0 = true ∧ (tripping.breaker 0).state = .closed ∧ tripping.topo.feederSection 0 = some 0 ∧
    ((tripping.protectionSteps (tripping.validMeasurement { Scan.blank with current := Vector.replicate 12 ⟨5000, false⟩ }
      false false)).breaker 0).cause = .trip .inst := by decide +kernel

theorem witness_LineTestIsJudged :
    running.topo.feederSection 0 = some 0 ∧
    ((timed .testing fun b => { b with test := .average 3 15 178 8912 12480 }).breaker 0).test = .average 3 15 178 8912 12480 ∧
    (running.validMeasurement .blank false false).blind = false ∧ (running.validMeasurement .blank false false).held = false := by
  decide +kernel

/-- Feeder 0 in an automatic test. -/
def testing : State := timed .testing fun b => { b with automatic := true, inSequence := true, test := .settle 0 }

/-- That state after three HELD measurements in a row, the fourth due. -/
def nearlyBlind : State := { testing with scp := { testing.scp with heldRun := 3, overdueAt := 0 } }

theorem witness_TestOutcomesAct :
    (testing.breaker 0).state = .testing ∧ (testing.breaker 0).automatic = true ∧ (testing.breaker 0).follows = false ∧
    testing.holdsButPartner 0 = [] ∧ testing.ready 0 = true ∧
    ({ testing with scp := { testing.scp with blind := true } } : State).holdsButPartner 0 = [.blind] ∧
    (testing.setSec 0 { testing.sec 0 with backfeed := true }).holdsButPartner 0 = [.backfeed] ∧
    (testing.setReady 0 false).holdsButPartner 0 = [.ready] ∧ (testing.feederSet 0).tReady ≠ 0 ∧
    (∀ c ∈ testing.topo.feederSection 0,
      ((testing.sec c).fed = true ↔ ∃ g ∈ testing.topo.enabledFeeders c, (testing.breaker g).state = .closed)) := by decide +kernel

/-- The settle phase before and at N_settle (50), the averaging phase before its last measurement, and the entry to BLIND. -/
theorem witness_TestOutcomesAct_running :
    testing.topo.feederSection 0 = some 0 ∧ (testing.breaker 0).test = .settle 0 ∧ 0 < (testing.feederSet 0).nSettle ∧
    ((timed .testing fun b => { b with test := .settle 50 }).breaker 0).test = .settle 50 ∧
    ¬50 < ((timed .testing fun b => { b with test := .settle 50 }).feederSet 0).nSettle ∧
    ((timed .testing fun b => { b with test := .average 3 14 1 1 1 }).breaker 0).test = .average 3 14 1 1 1 ∧
    (running.validMeasurement .blank false false).blind = false ∧ running.heldMeasurement.held = true ∧
    nearlyBlind.powered = true ∧ reached nearlyBlind.now nearlyBlind.scp.overdueAt = true ∧ nearlyBlind.scp.blind = false ∧
    nearlyBlind.scp.heldRun = 3 ∧ (nearlyBlind.breaker 0).state = .testing ∧ (nearlyBlind.breaker 0).test ≠ .idle ∧
    (nearlyBlind.breaker 0).follows = false ∧ nearlyBlind.topo.leadOf 0 = none := by decide +kernel

/-- A host test whose close is free to start, and one that finds READY absent. -/
theorem witness_TestOutcomesAct_host :
    ((timed .testing id).breaker 0).state = .testing ∧ ((timed .testing id).breaker 0).automatic = false ∧
    (timed .testing id).sst.mode = .run ∧ (∀ c ∈ (timed .testing id).topo.feederSection 0, (timed .testing id).locks c = []) ∧
    ((timed .testing id).protection 0).heat ≤ ((timed .testing id).feederSet 0).hReclose ∧ (timed .testing id).ready 0 = true ∧
    ((timed .testing id).setReady 0 false).ready 0 = false := by decide +kernel

/-- Feeder 0 intertripped in a state, its partner LOCKED_OUT. -/
def following (st : BState) (f : Breaker → Breaker) : State :=
  (timed st fun b => f { b with follows := true }).setBreaker 1 (.rest .lockedOut none)

/-- R59: the follower of a LOCKED_OUT partner, in TESTING and in OPENING. -/
theorem witness_followsLocked :
    FollowsLocked (following .testing fun b => { b with automatic := true }) 0 ∧ ¬FollowsLocked testing 0 ∧
    FollowsLocked (following .opening fun b => { b with cause := .trip .intertrip }) 0 ∧
    ((following .opening fun b => { b with cause := .trip .intertrip }).breaker 0).attempts <
      (following .opening fun b => { b with cause := .trip .intertrip }).effectiveLimit 0 := by
  unfold FollowsLocked; decide +kernel

theorem witness_AuxOpens :
    ((resting .opening).breaker 0).state = .opening ∧ (resting .opening).enabled 0 = true ∧
    ((timed .opening fun b => { b with cause := .trip .reverse }).breaker 0).cause = .trip .reverse ∧
    ((timed .opening fun b => { b with cause := .trip .inst }).breaker 0).attempts <
      (timed .opening fun b => { b with cause := .trip .inst }).effectiveLimit 0 ∧
    ((resting .closed).breaker 0).state = .closed ∧ running.enabled 2 = false := by decide +kernel

theorem witness_AuxCloses :
    (resting .closing).enabled 0 = true ∧ ((resting .closing).breaker 0).state = .closing ∧ running.enabled 2 = false ∧
    running.powered = true := by decide +kernel

/-- Feeder 0 comes to LOCKED_OUT while its follower, feeder 1, waits in DEAD_TIME. -/
theorem witness_takesAlong :
    running.topo.partner 0 = some 1 ∧ running.topo.leadOf 1 = some 0 ∧
    (((timed .opening fun b => { b with cause := .trip .reverse }).setBreaker 1 (.rest .deadTime none)).breaker 1).state = .deadTime ∧
    (((timed .closing fun b => { b with closeTimer := some 0 }).setBreaker 1 (.rest .deadTime none)).breaker 1).state = .deadTime := by
  decide +kernel

/-- Feeder 0 in CLOSING while its partner tests: an automatic test under no hold, one under BLIND, and a host test. -/
theorem witness_AuxCloses_partner :
    let s := (resting .closing).setBreaker 1 { Breaker.rest .testing none with automatic := true, test := .settle 0 }
    s.topo.partner 0 = some 1 ∧ (s.breaker 1).state = .testing ∧ (s.breaker 1).automatic = true ∧ s.holdsButPartner 1 = [] ∧
    ({ s with scp := { s.scp with blind := true } } : State).holdsButPartner 1 = [.blind] ∧
    ((s.setBreaker 1 (.rest .testing none)).breaker 1).automatic = false ∧ s.locks 0 = [] ∧ s.ready 1 = true ∧
    (s.protection 1).heat ≤ (s.feederSet 1).hReclose ∧ FedFlagsTrue s ∧ s.topo = running.topo ∧ s.topo.Paired ∧
    (s.setBreaker 1 (.rest .lockedOut none)).topo.partner 0 = some 1 := by
  unfold FedFlagsTrue Topology.Paired
  decide +kernel

theorem witness_BreakerTimersExpire :
    isDue (0 : Time) ((timed .opening fun b => { b with openTimer := some 0 }).breaker 0).openTimer = true ∧
    (auxClosed (timed .opening fun b => { b with openTimer := some 0 })).aux 0 = true ∧
    isDue (0 : Time) ((timed .closing fun b => { b with closeTimer := some 0 }).breaker 0).closeTimer = true ∧
    isDue (0 : Time) ((timed .closed fun b => { b with reclaim := some 0 }).breaker 0).reclaim = true := by decide +kernel

/-- Feeder 0 in DEAD_TIME. -/
def waiting (f : Breaker → Breaker) : State := timed .deadTime fun b => f { b with deadTimer := some 0, inSequence := true }

theorem witness_DeadTimeEnds :
    (waiting id).enabled 0 = true ∧ ((waiting id).breaker 0).state = .deadTime ∧
    isDue (0 : Time) ((waiting id).breaker 0).deadTimer = true ∧ (waiting id).holds 0 = [] ∧
    ((waiting fun b => { b with expired := true }).breaker 0).expired = true ∧
    ((waiting id).setReady 0 false).ready 0 = false ∧ ((waiting id).feederSet 0).tReady ≠ 0 ∧
    (waiting id).topo.leadOf 0 = none ∧ (waiting id).topo.leadOf 1 = some 0 ∧
    isDue (0 : Time) ((waiting fun b => { b with readyWait := some 0 }).breaker 0).readyWait = true ∧
    (waiting id).ready 0 ≠ false ∧ running.enabled 2 = false := by decide +kernel

/-- A step of the running part. -/
theorem running_steps : ∃ t, step running = .next t := ⟨_, rfl⟩

theorem witness_BoundsAreKept :
    LocksLegal running ∧ LinkBounded running ∧ TrackingBounded running ∧ ZonesBounded running ∧ SuspicionBounded running ∧
    FedFlagsTrue running ∧ ListsPaired running := by
  refine ⟨?_, ?_, ?_, ?_, ?_, ?_, ?_⟩
  · unfold LocksLegal; decide +kernel
  · unfold LinkBounded; decide +kernel
  · unfold TrackingBounded; decide +kernel
  · unfold ZonesBounded; decide +kernel
  · intro n v h
    have : ∀ n : SlotNo, running.vehicle n = none := by decide +kernel
    simp [this n] at h
  · unfold FedFlagsTrue; decide +kernel
  · unfold ListsPaired Topology.Paired; decide +kernel

/-- R10: the topology of the small states passes every check. -/
theorem witness_TopologyValid : TopologyValid running := by
  have hsec : ∀ f : FeederNo, (running.topo.feeders[f]).enabled = true → (running.topo.feeders[f]).sec ≠ none ∧
      ∀ c : SectionNo, (running.topo.feeders[f]).sec = some c → f ∈ running.topo.lists[c] := by decide +kernel
  have hlist : ∀ c : SectionNo, ∀ f ∈ running.topo.lists[c], (running.topo.feeders[f]).sec = some c := by decide +kernel
  have hp : ∀ p : PointNo, (running.topo.points[p]).fitted = true → p = 0 := by decide +kernel
  have hq : ∀ q : PointNo, ¬q < 0 := by decide
  have hgate : ∀ g : GateNo,
      ¬((running.topo.gates[g]).role = .plain ∧ (running.topo.gates[g]).src = (running.topo.gates[g]).dst) ∧
      ¬(((running.topo.gates[g]).role = .entry ∧
          ∀ p : PointNo, (running.topo.points[p]).fitted = true → (running.topo.points[p]).entry ≠ g) ∨
        ((running.topo.gates[g]).role = .exit0 ∧
          ∀ p : PointNo, (running.topo.points[p]).fitted = true → (running.topo.points[p]).exit0 ≠ g) ∨
        ((running.topo.gates[g]).role = .exit1 ∧
          ∀ p : PointNo, (running.topo.points[p]).fitted = true → (running.topo.points[p]).exit1 ≠ g)) ∧
      ¬((running.topo.gates[g]).role = .plain ∧
        ∃ p : PointNo, (running.topo.points[p]).fitted = true ∧ (running.topo.gates[g]).src = some (running.topo.points[p]).approach) ∧
      ¬((running.topo.gates[g]).role = .plain ∧ (running.topo.gates[g]).src ≠ none ∧
        ∃ h < g, (running.topo.gates[h]).role = .plain ∧ (running.topo.gates[h]).src = (running.topo.gates[g]).src) := by
    decide +kernel
  rintro kind index check (⟨_, f, _, he, h⟩ | ⟨_, _, c, _, f, hf, hne⟩ | ⟨_, p, t, _, rfl, hfit, h⟩ | ⟨_, g, _, h⟩)
  · rcases h with ⟨_, h⟩ | ⟨_, c, h1, h2⟩
    · exact (hsec f he).1 h
    · exact h2 ((hsec f he).2 c h1)
  · exact hne (hlist c f hf)
  · obtain rfl := hp p hfit
    rcases h with ⟨_, h⟩ | ⟨_, q, h, _⟩ | ⟨_, h⟩ | ⟨_, h⟩ | ⟨_, q, h, _⟩
    · revert h; decide +kernel
    · exact hq q h
    · revert h; decide +kernel
    · revert h; decide +kernel
    · exact hq q h
  · obtain ⟨h9, h10, h11, h12⟩ := hgate g
    rcases h with ⟨_, h⟩ | ⟨_, h⟩ | ⟨_, h⟩ | ⟨_, h⟩
    · exact h9 h
    · exact h10 h
    · exact h11 h
    · exact h12 h

/-- A feeder whose dead timer is due under a hold, and a follower (feeder 1) with its lead at rest, LOCKED_OUT or closed. -/
theorem witness_DeadTimeEnds_holds :
    ({ waiting id with scp := { (waiting id).scp with blind := true } } : State).holds 0 = [.blind] ∧
    LeadNotLocked (waiting id) 0 ∧ FedFlagsTrue (waiting id) ∧ LeadNotLocked running 1 ∧ running.topo.leadOf 1 = some 0 ∧
    (∃ lead ∈ (resting .lockedOut).topo.leadOf 1, ((resting .lockedOut).breaker lead).state = .lockedOut) := by
  refine ⟨by decide +kernel, .inl (by decide +kernel), ?_, .inr ⟨witness_TopologyValid, by decide +kernel⟩, by decide +kernel, by decide +kernel⟩
  unfold FedFlagsTrue; decide +kernel

/-- One vehicle, at the head of the approach of point 0 and of its zone queue. -/
def inZone : State := (tracking someVehicle).setPoint 0 { atSet with queue := [⟨0, .zero, .default, none, none⟩] }

theorem witness_account : QueuesSound inZone ∧ FleetsUnique inZone ∧ ZonesLead inZone := by
  have hslot : ∀ n, inZone.vehicle n ≠ none → n = 0 := by decide +kernel
  refine ⟨fun g => ?_, fun m n u v _ hm hn _ _ => ?_, ?_⟩
  · have hq : ∀ g, (inZone.queue g).Nodup ∧ ∀ n, n ∈ inZone.queue g ↔ (inZone.vehicle n).map (·.segment) = some g := by decide +kernel
    refine ⟨(hq g).1, fun n => ((hq g).2 n).trans ?_⟩
    simp [Option.map_eq_some_iff]
  · rw [hslot m (by simp [hm]), hslot n (by simp [hn])]
  · unfold ZonesLead; decide +kernel

/-- A feeder that is closing, CLOSE asserted, under no guard. -/
theorem witness_CloseStaysGuarded :
    (timed .closing fun b => { b with closeOut := true }).closeLine 0 = true ∧
    CloseGuarded (timed .closing fun b => { b with closeOut := true }) := by
  unfold CloseGuarded
  decide +kernel

/-- A point that is moving, for a head without the mark. -/
theorem witness_DrivesStayGuarded :
    (pointed { atSet with state := .moving, queue := [⟨0, .one, .default, none, none⟩] }).drive 0 .zero = true ∧
    DriveGuarded (pointed { atSet with state := .moving, queue := [⟨0, .one, .default, none, none⟩] }) := by
  refine ⟨by decide +kernel, fun p => ?_⟩
  have h : ∀ p, ((pointed { atSet with state := .moving, queue := [⟨0, .one, .default, none, none⟩] }).point p).queue.all
    (fun e => e.mark.isNone) = true := by decide +kernel
  have h' := List.all_eq_true.mp (h p)
  exact ⟨fun e he => by simpa using h' e (List.mem_of_mem_tail he), fun _ e he => by simpa using h' e (List.mem_of_mem_head? he)⟩

/-- Whether a value list meets the ranges of its fields. -/
def fieldsHold (specs : List FieldSpec) (l : List Int) : Bool :=
  (List.range specs.length).all fun i => (specs[i]?).all fun spec => spec.range.holds (valueAt l (i + 1))

theorem fieldsHold_at (specs : List FieldSpec) (l : List Int) (h : fieldsHold specs l = true) (i : Nat) (spec : FieldSpec)
    (hi : specs[i]? = some spec) : spec.range.holds (valueAt l (i + 1)) = true := by
  have hlt : i < specs.length := by
    by_contra hc
    rw [List.getElem?_eq_none (by omega)] at hi
    cases hi
  simpa [hi] using List.all_eq_true.mp h i (List.mem_range.mpr hlt)

/-- The factory defaults are in range. -/
theorem factory_inRange : Settings.factory.inRange := by
  intro id
  have hf : ∀ f : FeederNo, Settings.factory.feeders[f] = FeederSet.factory := by simp [Settings.factory]
  have hc : ∀ c : SectionNo, Settings.factory.sections[c] = SectionSet.factory := by simp [Settings.factory]
  have hs : ∀ g : SegmentNo, Settings.factory.segments[g] = 0 := by simp [Settings.factory]
  have hg : ∀ g : GateNo, Settings.factory.gates[g] = GateSet.factory := by simp [Settings.factory]
  have hp : ∀ p : PointNo, Settings.factory.points[p] = PointSet.factory := by simp [Settings.factory]
  apply fieldsHold_at
  cases id with
  | zone => decide +kernel
  | feeder f => simp only [Settings.values, hf, RecordId.specs]; decide +kernel
  | sec c => simp only [Settings.values, hc, RecordId.specs]; decide +kernel
  | segment g => simp only [Settings.values, hs, RecordId.specs]; decide +kernel
  | gate g => simp only [Settings.values, hg, RecordId.specs]; decide +kernel
  | point p => simp only [Settings.values, hp, RecordId.specs]; decide +kernel

theorem witness_SettingsStayInRange : FloorsUpheld running ∧ SettingsInRange running ∧ HeatBounded running := by
  have hf : Settings.factory.underFloors := by unfold Settings.underFloors; decide +kernel
  refine ⟨⟨hf, hf, fun j h => ?_⟩, ⟨factory_inRange, factory_inRange, fun j h => ?_⟩, ?_⟩
  · cases h
  · cases h
  · unfold HeatBounded; decide +kernel

theorem witness_LockoutsStayRetained : BreakersSound (((resting .lockedOut).setLockout 0 (some .noReclose))) := by
  unfold BreakersSound
  decide +kernel

end Sys2Proof.Tests
end

