-- ==== Sys2Proof/Proofs/Thermal.lean ====
section
/-! The thermal content H on a protection step (R40): what one thermal step computes, and that every enabled feeder's H takes it. -/

namespace Sys2Proof.Machine

/-- The BLIND mark stands before the other marks (R32). -/
theorem Measurement.stepKind_eq_blind_iff (m : Measurement) : m.stepKind = .blind ↔ m.blind = true := by
  by_cases blind : m.blind = true
  · simp [Measurement.stepKind, blind]
  · simp only [Measurement.stepKind, blind, if_false, Bool.false_eq_true]
    split_ifs <;> simp

@[simp] theorem heatAfter_blind (set : FeederSet) (heat : Nat) (amps : Int) : heatAfter set .blind heat amps = heat := rfl

theorem heatAfter_of_ne_blind (set : FeederSet) {k : StepKind} (hk : k ≠ .blind) (heat : Nat) (amps : Int) :
    heatAfter set k heat amps = heatStep set heat amps := by
  cases k with
  | blind => exact absurd rfl hk
  | inSequence | broken | held => rfl

/-- R40: the natural subtraction of the model stops at 0 where the signed one is clamped to 0. -/
theorem heatStep_eq_clamp (set : FeederSet) (heat : Nat) (amps : Int) :
    (heatStep set heat amps : Int) =
      max 0 (min 2147483647 ((heat : Int) + ((amps.natAbs / 16 : Nat) : Int) ^ 2 - ((set.iCont / 16 : Nat) : Int) ^ 2)) := by
  simp only [heatStep, pow_two, ← Nat.cast_mul]
  omega

/-- The restart of R44 leaves H alone. -/
@[simp] theorem Protection.restart_heat (r : Protection) (set : FeederSet) (k : StepKind) : (r.restart set k).heat = r.heat := rfl

/-- H steps on the feeder's own current, injection or not (R40, R45). -/
theorem protectionStep_record_heat (set : FeederSet) (k : StepKind) (own : Sample) (injected : Option Sample) (r : Protection) :
    (protectionStep set k own injected r).record.heat = heatAfter set k r.heat own.amps := by
  cases injected with
  | none => rfl
  | some j => rfl

namespace State

theorem stepRecords_protection_of_enabled (s : State) (m : Measurement) {f : FeederNo} (hf : (s.topo.feeders[f]).enabled = true) :
    (s.stepRecords m).protection f = (s.stepOf m f).record := by
  simp only [stepRecords, protection, Fin.getElem_fin, Vector.getElem_ofFn]
  exact if_pos hf

theorem stepRecords_heat_of_enabled (s : State) (m : Measurement) {f : FeederNo} (hf : (s.topo.feeders[f]).enabled = true) :
    ((s.stepRecords m).protection f).heat =
      heatAfter (s.feederSet f) m.stepKind (s.protection f).heat m.current[f].amps := by
  rw [stepRecords_protection_of_enabled s m hf, stepOf, protectionStep_record_heat]

end State

end Sys2Proof.Machine

namespace Sys2Proof.Proofs

open Sys2Proof Sys2Proof.Machine

/-- Settles O46: H of an enabled feeder is `heatAfter` on its own current, split by the BLIND mark. -/
theorem thermalContentSteps : Obligations.ThermalContentSteps := by
  intro s m f enabled
  have heat_eq := State.stepRecords_heat_of_enabled s m enabled
  constructor
  · intro blind
    rw [heat_eq, m.stepKind_eq_blind_iff.mpr blind, heatAfter_blind]
  · rintro not_blind q qc rfl rfl
    have kind_ne : m.stepKind ≠ .blind := by simp [m.stepKind_eq_blind_iff, not_blind]
    rw [heat_eq, heatAfter_of_ne_blind _ kind_ne, heatStep_eq_clamp]

end Sys2Proof.Proofs
end

