-- ==== Sys2Proof/Proofs/FeederReset.lean ====
section
/-! FEEDER_RESET (R74): the answer its owner gives, and what the event leaves of the feeder, the lockout and the outputs. Besides,
what a request that names a feeder comes to, and how `Settles` is carried over the taking and the answering of a request. -/

namespace Sys2Proof.Machine

variable {s t : State}

/-! ## A request that names a feeder -/

theorem State.withFeeder_of_ge {b : Byte} (hb : 12 ≤ b.toNat) (serve : State → FeederNo → Answer × State) :
    s.withFeeder b serve = (.refuse .badIndex, s) := by
  simp [State.withFeeder, indexOf, Nat.not_lt.mpr hb]

theorem State.withFeeder_of_eq {b : Byte} {f : FeederNo} (hb : b.toNat = f.val) (serve : State → FeederNo → Answer × State) :
    s.withFeeder b serve = serve s f := by
  simp [State.withFeeder, indexOf, hb]

@[simp] theorem dequeue_breaker (s : State) (f : FeederNo) : s.dequeue.breaker f = s.breaker f := rfl

@[simp] theorem reply_breaker (s : State) (kind tag : Byte) (a : Answer) (f : FeederNo) :
    (s.reply kind tag a).breaker f = s.breaker f := rfl

@[simp] theorem reply_lockout (s : State) (kind tag : Byte) (a : Answer) (f : FeederNo) :
    (s.reply kind tag a).lockout f = s.lockout f := rfl

/-! ## `Settles` from the taking of a request to its answer (R182) -/

theorem Settles.of_dequeue {l : List Part} {fs : List FeederNo} {ps : List PointNo} (h : Settles l fs ps s.dequeue t) :
    Settles l fs ps s t where
  kept := (dequeue_kept _).trans h.kept
  mode := h.mode
  feeders := h.feeders
  sections := h.sections
  points p hp := PointStands.trans (t := s.dequeue) rfl (.of_eq rfl) (h.points p hp)

theorem Settles.reply {l : List Part} {fs : List FeederNo} {ps : List PointNo} (h : Settles l fs ps s t) (kind tag : Byte)
    (a : Answer) : Settles l fs ps s (t.reply kind tag a) where
  kept := h.kept.trans (reply_kept _ kind tag a)
  mode := h.mode
  feeders := h.feeders
  sections := h.sections
  points p hp := (h.points p hp).congr rfl

/-! ## A feeder goes to OPEN and the event ends -/

theorem toOpen_breaker (s : State) (f g : FeederNo) :
    (s.toOpen f).breaker g = if g = f then .rest .opened (s.breaker f).judged else s.breaker g :=
  putBreaker_breaker s f _ g

@[simp] theorem toOpen_breaker_self (s : State) (f : FeederNo) : (s.toOpen f).breaker f = .rest .opened (s.breaker f).judged := by
  simp [toOpen_breaker]

@[simp] theorem toOpen_lockout (s : State) (f g : FeederNo) : (s.toOpen f).lockout g = s.lockout g :=
  putBreaker_lockout s f _ g

/-- A feeder goes to OPEN with its retained lockout written, and the event takes up what follows (R74). -/
def State.reopen (s : State) (f : FeederNo) (w : Option LockoutCause) : State := ((s.toOpen f).setLockout f w).takeUp

theorem setLockout_lockout_eq (s : State) (f : FeederNo) : s.setLockout f (s.lockout f) = s := by
  simp [State.setLockout, State.lockout]

theorem reopened_moves (s : State) (f : FeederNo) (w : Option LockoutCause) :
    Moves [.breakers, .sections, .lockouts] s ((s.toOpen f).setLockout f w) :=
  (setLockout_moves _ f w).onto ((toOpen_moves s f).mono (by decide)) (by decide)

theorem reopened_settles (s : State) (f : FeederNo) (w : Option LockoutCause) :
    Settles [] [f] [] s ((s.toOpen f).setLockout f w) where
  kept := (reopened_moves s f w).kept.mono (by decide)
  mode := .inl ((reopened_moves s f w).kept.modeOf (by decide))
  feeders g hg _ _ := by
    have hgf : g ≠ f := by simpa using hg
    simp [State.setLockout_lockout, toOpen_breaker, hgf]
  sections := SectionsStand.trans ((SectionsStand.refl s).putBreaker f (.rest .opened (s.breaker f).judged)) fun _ => by
    simp [State.toOpen]
  points p _ := .of_eq ((reopened_moves s f w).kept.point (by decide) p)

theorem reopen_settles (s : State) (f : FeederNo) (w : Option LockoutCause) : Settles [] [f] [] s (s.reopen f w) :=
  (reopened_settles s f w).then (takeUp_settles _) ((reopened_moves s f w).kept.topo (by decide))

/-- The end of the event leaves a feeder in OPEN as it is. -/
theorem reopen_feeder (s : State) (f : FeederNo) (w : Option LockoutCause) :
    (s.reopen f w).breaker f = .rest .opened (s.breaker f).judged ∧ (s.reopen f w).lockout f = w := by
  have opened : ((s.toOpen f).setLockout f w).breaker f = .rest .opened (s.breaker f).judged := by simp
  obtain ⟨hb, hl⟩ := (takeUp_settles ((s.toOpen f).setLockout f w)).feeders f (by simp) (by simp [opened, Breaker.rest])
    (by simp [opened, Breaker.rest])
  exact ⟨hb.trans opened, hl.trans (State.setLockout_lockout_self _ f w)⟩

theorem reopen_noted (s : State) (f : FeederNo) (w : Option LockoutCause) :
    ∃ bs, (s.reopen f w).lnk = s.lnk.says s.now bs :=
  ((takeUp_moves _).onto ((reopened_moves s f w).mono (by decide)) fun _ hp => hp).noted

theorem tripLine_of_opened {f : FeederNo} {j : Option Judged} (h : t.breaker f = .rest .opened j) : t.tripLine f = false := by
  simp [State.tripLine, h, Breaker.rest]

theorem closeLine_of_opened {f : FeederNo} {j : Option Judged} (h : t.breaker f = .rest .opened j) : t.closeLine f = false := by
  simp [State.closeLine, h, Breaker.rest]

/-! ## What FEEDER_RESET answers -/

/-- R74: a feeder FEEDER_RESET takes to OPEN: enabled, and LOCKED_OUT or STUCK with AUX open. -/
def Resettable (s : State) (f : FeederNo) : Prop :=
  s.enabled f = true ∧ ((s.breaker f).state = .lockedOut ∨ ((s.breaker f).state = .stuck ∧ s.aux f = false))

theorem serveReset_of_resettable {f : FeederNo} (h : Resettable s f) :
    s.serveReset f = (.ok .none, s.reopen f (if (s.breaker f).state = .lockedOut then none else s.lockout f)) := by
  obtain ⟨enabled, lockedOut | ⟨stuck, auxOpen⟩⟩ := h
  · simp [State.serveReset, State.reopen, enabled, lockedOut]
  · have kept : (s.toOpen f).setLockout f (s.lockout f) = s.toOpen f := by
      simpa using setLockout_lockout_eq (s.toOpen f) f
    simp [State.serveReset, State.reopen, enabled, stuck, auxOpen, kept]

theorem serveReset_of_not_resettable {f : FeederNo} (h : ¬Resettable s f) : s.serveReset f = (.refuse .state, s) := by
  unfold State.serveReset
  by_cases enabled : s.enabled f = true
  · cases state : (s.breaker f).state
    case lockedOut => exact absurd ⟨enabled, .inl state⟩ h
    case stuck =>
      have auxClosed : s.aux f = true := by
        by_contra auxOpen
        exact h ⟨enabled, .inr ⟨state, by simpa using auxOpen⟩⟩
      simp [enabled, auxClosed]
    all_goals simp [enabled]
  · simp [enabled]

/-! ## The event -/

/-- FEEDER_RESET is the dispatch of its request (R182). -/
theorem exec_feederReset (tag b : Byte) (s : State) :
    exec (.feederReset tag (some b)) s =
      .next (s.request (.feederReset tag (some b)) 0x12 tag (some b) fun s b => s.withFeeder b State.serveReset) := rfl

theorem feederReset_onlyReplies {tag b : Byte} {a : Answer} (ready : Ready s (.feederReset tag (some b)))
    (served : s.dequeue.withFeeder b State.serveReset = (a, s.dequeue)) :
    OnlyReplies (.feederReset tag (some b)) s 0x12 tag a :=
  (exec_feederReset tag b s).trans (congrArg _ (request_only ready served))

/-- A FEEDER_RESET whose owner reopens the feeder, its lockout then `w`. -/
theorem feederReset_reopens {tag b : Byte} {f : FeederNo} {w : Option LockoutCause} (ready : Ready s (.feederReset tag (some b)))
    (served : s.dequeue.withFeeder b State.serveReset = (.ok .none, s.dequeue.reopen f w)) :
    ∃ t, exec (.feederReset tag (some b)) s = .next t ∧ Answered s t 0x12 tag (.ok .none) [] ∧ Settles [] [f] [] s t ∧
      t.breaker f = .rest .opened (s.breaker f).judged ∧ t.lockout f = w := by
  obtain ⟨more, noted⟩ := reopen_noted s.dequeue f w
  have answered := answered_of (serve := fun s b => s.withFeeder b State.serveReset) (kind := 0x12) (tag := tag) (bs := [])
    (more := more) ready served noted
  have settles := ((reopen_settles s.dequeue f w).of_dequeue.reply 0x12 tag (.ok .none)).transmit
  rw [request_served ready served] at answered
  refine ⟨_, ?_, answered, settles, by simp [reopen_feeder], by simp [reopen_feeder]⟩
  rw [exec_feederReset, request_served ready served]

end Sys2Proof.Machine

namespace Sys2Proof.Proofs

open Sys2Proof Sys2Proof.Machine

/-- Settles O21: a feeder that can be reset is reopened, with its lockout cleared if it was LOCKED_OUT; any other is refused. -/
theorem feederIsReset : Obligations.FeederIsReset := by
  intro s tag b ready
  refine ⟨fun above => feederReset_onlyReplies ready (State.withFeeder_of_ge above _), fun f named => ?_⟩
  split
  case isTrue resettable =>
    have served := (State.withFeeder_of_eq named State.serveReset).trans (serveReset_of_resettable (s := s.dequeue) resettable)
    obtain ⟨t, runs, answered, settles, opened, lockout⟩ := feederReset_reopens ready served
    obtain ⟨latchA, latchB⟩ := settles.kept.of .latches (by decide)
    exact ⟨t, runs, answered, settles, opened, lockout, latchA, latchB, tripLine_of_opened opened, closeLine_of_opened opened⟩
  case isFalse stays =>
    have served := (State.withFeeder_of_eq named State.serveReset).trans (serveReset_of_not_resettable (s := s.dequeue) stays)
    exact feederReset_onlyReplies ready served

end Sys2Proof.Proofs
end

