-- ==== Sys2Proof/Proofs/LineTest.lean ====
section
/-! The judgement of a line test (R66): what `judgeSums` computes, and that the outcome it takes releases TEST, keeps the judgement,
and closes only at a pass. -/

namespace Sys2Proof.Machine

/-! ## The judgement -/

section
variable (set : SectionSet) (n sumI sumU sumBus : Nat)

theorem judgeSums_g : (State.judgeSums set n sumI sumU sumBus).g = if sumU = 0 then 65535 else min 65535 (1000 * sumI / sumU) := rfl

theorem judgeSums_correction : (State.judgeSums set n sumI sumU sumBus).correction = n * set.gVeh := rfl

/-- The natural subtraction stops G_f at 0 where the correction exceeds G. -/
theorem judgeSums_gFault : (State.judgeSums set n sumI sumU sumBus).gFault =
    (State.judgeSums set n sumI sumU sumBus).g - (State.judgeSums set n sumI sumU sumBus).correction := rfl

theorem judgeSums_outcome : (State.judgeSums set n sumI sumU sumBus).outcome =
    if (State.judgeSums set n sumI sumU sumBus).busAverage < set.uBusMin then .inconclusive
    else if set.gFault ≤ (State.judgeSums set n sumI sumU sumBus).gFault then .fail else .pass := rfl

end

/-! ## A test that has ended -/

/-- TEST is released on a breaker, its last judgement is `j`, and it stays open: OPEN, in DEAD_TIME or LOCKED_OUT. -/
structure Breaker.StaysOpen (b : Breaker) (j : Option Judged) : Prop where
  test : b.test = .idle
  judged : b.judged = j
  state : b.state = .opened ∨ b.state = .deadTime ∨ b.state = .lockedOut

theorem Breaker.StaysOpen.ne_closing {b : Breaker} {j : Option Judged} (h : b.StaysOpen j) : b.state ≠ .closing := by
  rcases h.state with opened | deadTime | lockedOut <;> simp [*]

variable (s : State) (f : FeederNo)

/-- A partner locked out along with a feeder is not the feeder itself, which is no longer in DEAD_TIME. -/
@[simp] theorem lockOut_breaker_self (w : LockoutCause) :
    (s.lockOut f w).breaker f = .rest .lockedOut (s.breaker f).judged := by
  unfold State.lockOut
  dsimp only
  split
  · simp
  next g along =>
    have waits := lockedWith_deadTime _ along
    have other : f ≠ g := by
      rintro rfl
      simp [Breaker.rest] at waits
    simp [other]

section
variable {s f} {j : Option Judged} (kept : (s.breaker f).judged = j)
include kept

theorem lockOut_staysOpen (w : LockoutCause) : ((s.lockOut f w).breaker f).StaysOpen j := by
  rw [lockOut_breaker_self]
  exact ⟨rfl, kept, .inr (.inr rfl)⟩

theorem toDeadTime_staysOpen : ((s.toDeadTime f).breaker f).StaysOpen j := by
  unfold State.toDeadTime
  dsimp only
  split_ifs
  · exact lockOut_staysOpen (by simpa using kept) .partner
  · rw [putBreaker_breaker_self]
    exact ⟨rfl, kept, .inr (.inl rfl)⟩

theorem endHostTest_staysOpen (o : TestOutcome) (values : Option Judged) : ((s.endHostTest f o values).breaker f).StaysOpen j := by
  rw [State.endHostTest, State.raise_breaker, toOpen_breaker_self]
  exact ⟨rfl, kept, .inl rfl⟩

end

theorem expire_staysOpen {s : State} {f : FeederNo} {j : Option Judged} (waits : (s.breaker f).StaysOpen j) :
    ((s.expire f).breaker f).StaysOpen j := by
  obtain ⟨test, judged, state⟩ := waits
  unfold State.expire
  dsimp only
  split_ifs
  · rw [putBreaker_breaker_self]
    exact ⟨test, judged, state⟩
  · exact lockOut_staysOpen (by simpa using judged) .notReady
  · rw [putBreaker_breaker_self]
    exact ⟨test, judged, state⟩

theorem backToDeadTime_staysOpen {s : State} {f : FeederNo} {j : Option Judged} (kept : (s.breaker f).judged = j) :
    ((s.backToDeadTime f).breaker f).StaysOpen j := by
  unfold State.backToDeadTime
  dsimp only
  split_ifs
  · exact lockOut_staysOpen (by simpa using kept) .partner
  · apply expire_staysOpen
    rw [putBreaker_breaker_self]
    exact ⟨rfl, kept, .inr (.inl rfl)⟩

/-- A pass releases TEST and keeps the judgement, whether the close starts or something forbids it. -/
theorem closeAfterTest_test_judged (values : Option Judged) :
    ((s.closeAfterTest f values).breaker f).test = .idle ∧ ((s.closeAfterTest f values).breaker f).judged = (s.breaker f).judged := by
  have closes (a : Bool) : ((s.toClosing f a).breaker f).test = .idle ∧ ((s.toClosing f a).breaker f).judged = (s.breaker f).judged := by
    simp [State.toClosing]
  have back := backToDeadTime_staysOpen (s := s) (f := f) rfl
  have ends := endHostTest_staysOpen (s := s) (f := f) rfl .abandoned values
  unfold State.closeAfterTest
  split_ifs
  · exact closes true
  · exact ⟨back.test, back.judged⟩
  · exact closes false
  · exact ⟨ends.test, ends.judged⟩

/-! ## The outcome is taken -/

theorem takeOutcome_of_pass {j : Judged} (pass : j.outcome = .pass) :
    s.takeOutcome f j = (s.putBreaker f { s.breaker f with test := .idle, judged := some j }).closeAfterTest f (some j) := by
  simp [State.takeOutcome, pass]

/-- R67, R72: after a test that does not pass an automatic sequence goes on to a dead time or to LOCKED_OUT, and a host test to OPEN. -/
theorem takeOutcome_staysOpen {j : Judged} (noPass : j.outcome ≠ .pass) : ((s.takeOutcome f j).breaker f).StaysOpen (some j) := by
  unfold State.takeOutcome
  dsimp only
  split
  case h_1 pass => exact absurd pass noPass
  all_goals
    split
    · split
      · exact toDeadTime_staysOpen (by simp)
      · exact lockOut_staysOpen (by simp) _
    · exact endHostTest_staysOpen (by simp) _ _

theorem takeOutcome_test_judged (j : Judged) :
    ((s.takeOutcome f j).breaker f).test = .idle ∧ ((s.takeOutcome f j).breaker f).judged = some j := by
  by_cases pass : j.outcome = .pass
  · rw [takeOutcome_of_pass s f pass]
    simpa using closeAfterTest_test_judged (s.putBreaker f { s.breaker f with test := .idle, judged := some j }) f (some j)
  · have stays := takeOutcome_staysOpen s f pass
    exact ⟨stays.test, stays.judged⟩

theorem testLine_of_idle (h : (s.breaker f).test = .idle) : s.testLine f = false := by
  simp [State.testLine, Breaker.testing, h]

theorem closeLine_of_ne_closing (h : (s.breaker f).state ≠ .closing) : s.closeLine f = false := by
  simp [State.closeLine, h]

theorem testStep_sixteenth (m : Measurement) {c : SectionNo} {n i u bus : Nat} (sec : s.topo.feederSection f = some c)
    (test : (s.breaker f).test = .average n 15 i u bus) (notBlind : m.blind = false) (notHeld : m.held = false) :
    State.testStep m s f = s.takeOutcome f
      (State.judgeSums (s.sectionSet c) n (i + m.current[f].amps.toNat) (u + m.line[f]) (bus + s.busVoltage f m)) := by
  simp [State.testStep, State.addSums, sec, test, notBlind, notHeld]

end Sys2Proof.Machine

namespace Sys2Proof.Proofs

open Sys2Proof Sys2Proof.Machine

/-- Settles O49: the judgement by its parts, and the taking of its outcome split by a pass. -/
theorem lineTestIsJudged : Obligations.LineTestIsJudged := by
  constructor
  · rintro set n sumI sumU sumBus j rfl
    have g_eq := judgeSums_g set n sumI sumU sumBus
    have gFault_eq := judgeSums_gFault set n sumI sumU sumBus
    exact ⟨rfl, rfl, rfl, rfl, by omega, fun h => by rw [g_eq, if_pos h], fun h => by rw [g_eq, if_neg h],
      judgeSums_correction set n sumI sumU sumBus, by omega, by omega, judgeSums_outcome set n sumI sumU sumBus⟩
  · intro s f j
    obtain ⟨idle, kept⟩ := takeOutcome_test_judged s f j
    refine ⟨fun m _ _ _ _ _ => testStep_sixteenth s f m, idle, kept,
      testLine_of_idle _ f idle, rfl, fun noPass => ?_⟩
    have notClosing := (takeOutcome_staysOpen s f noPass).ne_closing
    exact ⟨notClosing, closeLine_of_ne_closing _ f notClosing⟩

end Sys2Proof.Proofs
end

