-- ==== Sys2Proof/Proofs/PointReset.lean ====
section
/-! POINT_RESET (R143) and ZONE_CLEAR (R144). Both write the record of one point, raise at most one notice and end the event:
`State.settlePoint` says this once, and what a request that comes to it answers is proved for it. -/

namespace Sys2Proof.Machine

variable {s t : State}

/-! ## A request leaves the points to its owner (R182) -/

@[simp] theorem dequeue_point (s : State) (p : PointNo) : s.dequeue.point p = s.point p := rfl

@[simp] theorem reply_point (s : State) (kind tag : Byte) (a : Answer) (p : PointNo) :
    (s.reply kind tag a).point p = s.point p := rfl

/-! ## A request that names a point (R9) -/

theorem State.withPoint_of_fitted {b : Byte} {p : PointNo} (named : b.toNat = p.val) (fitted : s.fitted p = true)
    (serve : State → PointNo → Answer × State) : s.withPoint b serve = serve s p := by
  simp [State.withPoint, indexOf, named, fitted]

theorem pointRequest_onlyReplies {i : Instr} {kind tag b : Byte} {p : PointNo} {serve : State → PointNo → Answer × State}
    {ans : Answer} (named : b.toNat = p.val) (fitted : s.fitted p = true) (ready : Ready s i)
    (served : serve s.dequeue p = (ans, s.dequeue)) :
    s.request i kind tag (some b) (fun s b => s.withPoint b serve) = { s with lnk := s.lnk.answered kind tag ans } :=
  request_only ready ((State.withPoint_of_fitted (s := s.dequeue) named fitted serve).trans served)

/-! ## A point's record is written, notices are raised and the event ends -/

theorem raises_moves (s : State) (bs : List NoticeBody) : Moves [] s (bs.foldl State.raise s) := .foldl raise_moves bs s

theorem raises_lnk (s : State) (bs : List NoticeBody) : (bs.foldl State.raise s).lnk = s.lnk.says s.now bs := by
  induction bs generalizing s with
  | nil => rfl
  | cons b bs ih => rw [List.foldl_cons, ih, raise_says, State.raise_now, ← Lnk.says_append, List.singleton_append]

/-- The record of a point is written, notices are raised, and the event takes up what follows. -/
def State.settlePoint (s : State) (p : PointNo) (r : PointRec) (bs : List NoticeBody) : State :=
  (bs.foldl State.raise (s.setPoint p r)).takeUp

section
variable (s) (p : PointNo) (r : PointRec) (bs : List NoticeBody)

theorem writtenPoint_moves : Moves [.points] s (bs.foldl State.raise (s.setPoint p r)) :=
  ((raises_moves _ bs).mono (by simp)).onto (setPoint_moves s p r) fun _ h => h

theorem writtenPoint_point (q : PointNo) : (bs.foldl State.raise (s.setPoint p r)).point q = (s.setPoint p r).point q :=
  (raises_moves _ bs).kept.point (by decide) q

theorem writtenPoint_settles : Settles [] [] [p] s (bs.foldl State.raise (s.setPoint p r)) where
  kept := (writtenPoint_moves s p r bs).kept.mono (by decide)
  mode := .inl ((writtenPoint_moves s p r bs).kept.modeOf (by decide))
  feeders f _ _ _ :=
    ⟨(writtenPoint_moves s p r bs).kept.breaker (by decide) f, (writtenPoint_moves s p r bs).kept.lockout (by decide) f⟩
  sections := SectionsStand.of_moves (writtenPoint_moves s p r bs) (by decide)
  points q hq := .of_eq ((writtenPoint_point s p r bs q).trans (s.setPoint_point_ne p r (by simpa using hq)))

theorem settlePoint_settles : Settles [] [] [p] s (s.settlePoint p r bs) :=
  (writtenPoint_settles s p r bs).then (takeUp_settles _) ((writtenPoint_moves s p r bs).kept.topo (by decide))

/-- The end of the event leaves the written record as it leaves any point's. -/
theorem settlePoint_stands : PointStands (s.setPoint p r) (s.settlePoint p r bs) p :=
  PointStands.trans ((raises_moves _ bs).kept.topo (by decide)) (.of_eq (writtenPoint_point s p r bs p))
    ((takeUp_settles _).points p (by simp))

/-- The notices stand first, before those of the end of the event. -/
theorem settlePoint_lnk : ∃ more, (s.settlePoint p r bs).lnk = s.lnk.says s.now (bs ++ more) := by
  obtain ⟨more, later⟩ := (takeUp_moves (bs.foldl State.raise (s.setPoint p r))).noted
  refine ⟨more, ?_⟩
  rw [State.settlePoint, later, (writtenPoint_moves s p r bs).now, raises_lnk, Lnk.says_append]
  rfl

end

/-- What a request is, whose owner writes the record of the point it names. -/
theorem pointRequest_settles {i : Instr} {kind tag b : Byte} {p : PointNo} {serve : State → PointNo → Answer × State}
    {ans : Answer} {r : PointRec} {bs : List NoticeBody} (named : b.toNat = p.val) (fitted : s.fitted p = true) (ready : Ready s i)
    (served : serve s.dequeue p = (ans, s.dequeue.settlePoint p r bs))
    (ht : t = s.request i kind tag (some b) fun s b => s.withPoint b serve) :
    Settles [] [] [p] s t ∧ Answered s t kind tag ans bs ∧ PointStands (s.setPoint p r) t p := by
  have answers := (State.withPoint_of_fitted (s := s.dequeue) named fitted serve).trans served
  obtain ⟨more, noted⟩ := settlePoint_lnk s.dequeue p r bs
  refine ⟨?_, ht ▸ answered_of ready answers noted, ?_⟩
  all_goals rw [ht, request_served ready answers]
  · exact ((settlePoint_settles s.dequeue p r bs).of_dequeue.reply kind tag ans).transmit
  · have stands : PointStands (s.setPoint p r) (s.dequeue.settlePoint p r bs) p :=
      .trans (t := s.dequeue.setPoint p r) rfl (.of_eq (by simp)) (settlePoint_stands s.dequeue p r bs)
    exact stands.congr (by simp)

/-! ## What POINT_RESET answers (R143) -/

/-- R143: the record of a point brought back at leg `l`, with proof demand where `demand` is set. -/
def PointRec.broughtBack (r : PointRec) (l : Leg) (demand : Bool) : PointRec :=
  { r with leg := l, failure := none, state := if r.confirmed then .set else .unknown, proofDemand := r.proofDemand || demand }

theorem bringBack_eq (s : State) (p : PointNo) (l : Leg) (demand : Bool) (cause : SetCause) :
    s.bringBack p l demand cause = s.settlePoint p ((s.point p).broughtBack l demand)
      (if (s.point p).confirmed = true then [.pointSet p l cause .none] else []) := by
  by_cases confirmed : (s.point p).confirmed = true <;>
    simp [State.bringBack, State.settlePoint, PointRec.broughtBack, confirmed]

/-- R143: the failure cause asks for a proof. -/
def PointRec.wantsProof (r : PointRec) : Bool := decide (r.failure = some .move ∨ r.failure = some .detection)

theorem servePointReset_of_proven {p : PointNo} {l : Leg} (failed : (s.point p).state = .failed)
    (proven : s.provenLeg p = some l) :
    s.servePointReset p = (.ok .none, s.settlePoint p ((s.point p).broughtBack l (s.point p).wantsProof)
      (if (s.point p).confirmed = true then [.pointSet p l .reset .none] else [])) := by
  have demand : ((s.point p).failure == some .move || (s.point p).failure == some .detection) = (s.point p).wantsProof := by
    simp [PointRec.wantsProof, beq_eq_decide]
  simp only [State.servePointReset, failed, proven, bringBack_eq, demand]

theorem servePointReset_refuses {p : PointNo} (h : (s.point p).state ≠ .failed ∨ s.provenLeg p = none) :
    s.servePointReset p = (.refuse .state, s) := by
  unfold State.servePointReset
  dsimp only
  split
  next failed proven => simp [failed, proven] at h
  next => rfl

/-! ## What ZONE_CLEAR answers (R144) -/

/-- R144: the record of a point whose zone has been confirmed. -/
def PointRec.cleared (r : PointRec) : PointRec :=
  { r with confirmed := true, state := if r.state = .unknown then .set else r.state }

theorem confirmZone_eq (s : State) (p : PointNo) :
    s.confirmZone p = s.settlePoint p (s.point p).cleared
      (if (s.point p).state = .unknown then [.pointSet p (s.point p).leg .zoneClear .none] else []) := by
  cases state : (s.point p).state <;> simp [State.confirmZone, State.settlePoint, PointRec.cleared, state]

theorem serveZoneClear_of_confirmed {p : PointNo} (h : (s.point p).confirmed = true) :
    s.serveZoneClear p = (.refuse .state, s) := by
  simp [State.serveZoneClear, h]

theorem serveZoneClear_of_unconfirmed {p : PointNo} (h : (s.point p).confirmed = false) :
    s.serveZoneClear p = (.ok .none, s.settlePoint p (s.point p).cleared
      (if (s.point p).state = .unknown then [.pointSet p (s.point p).leg .zoneClear .none] else [])) := by
  simp [State.serveZoneClear, h, confirmZone_eq]

/-! ## The events -/

/-- POINT_RESET is the dispatch of its request (R182). -/
theorem exec_pointReset (tag b : Byte) (s : State) :
    exec (.pointReset tag (some b)) s =
      .next (s.request (.pointReset tag (some b)) 0x19 tag (some b) fun s b => s.withPoint b State.servePointReset) := rfl

/-- ZONE_CLEAR is the dispatch of its request (R182). -/
theorem exec_zoneClear (tag b : Byte) (s : State) :
    exec (.zoneClear tag (some b)) s =
      .next (s.request (.zoneClear tag (some b)) 0x1A tag (some b) fun s b => s.withPoint b State.serveZoneClear) := rfl

end Sys2Proof.Machine

namespace Sys2Proof.Proofs

open Sys2Proof Sys2Proof.Machine

/-- Settles O34: each of the two requests is refused or writes the point's record, by what its owner answers. -/
theorem pointIsResetAndZoneConfirmed : Obligations.PointIsResetAndZoneConfirmed := by
  intro s tag b p named fitted
  refine ⟨fun ready => ⟨fun barred => ?_, fun l failed proven => ?_⟩, fun ready => ⟨fun confirmed => ?_, fun unconfirmed => ?_⟩⟩
  · exact (exec_pointReset tag b s).trans
      (congrArg _ (pointRequest_onlyReplies named fitted ready (servePointReset_refuses (s := s.dequeue) barred)))
  · exact ⟨_, exec_pointReset tag b s,
      pointRequest_settles named fitted ready (servePointReset_of_proven (s := s.dequeue) failed proven) rfl⟩
  · exact (exec_zoneClear tag b s).trans
      (congrArg _ (pointRequest_onlyReplies named fitted ready (serveZoneClear_of_confirmed (s := s.dequeue) confirmed)))
  · exact ⟨_, exec_zoneClear tag b s,
      pointRequest_settles named fitted ready (serveZoneClear_of_unconfirmed (s := s.dequeue) unconfirmed) rfl⟩

end Sys2Proof.Proofs
end

