-- ==== Sys2Proof/Proofs/Suspicion.lean ====
section
/-! The suspicion of a vehicle: fault events (R158–R160), its decay (R161) and VEHICLE_CLEAR (R163). Each of them writes the record
of one slot and raises some notices: `writtenVehicle_eq` says this once. -/

namespace Sys2Proof.Machine

variable {s : State} {n : SlotNo} {v : Vehicle} {e : FaultEvent}

/-! ## A vehicle record is written and notices are raised -/

theorem raise_eq (s : State) (b : NoticeBody) : s.raise b = { s with lnk := s.lnk.says s.now [b] } := by
  rw [← raise_says]
  unfold State.raise
  dsimp only
  split <;> rfl

theorem raises_eq (s : State) (bs : List NoticeBody) : bs.foldl State.raise s = { s with lnk := s.lnk.says s.now bs } := by
  induction bs generalizing s with
  | nil => rfl
  | cons b bs ih => rw [List.foldl_cons, ih, raise_eq, ← Lnk.says_append, List.singleton_append]

theorem writtenVehicle_eq (s : State) (n : SlotNo) (v : Option Vehicle) (bs : List NoticeBody) :
    bs.foldl State.raise (s.setVehicle n v) =
      { s with lnk := s.lnk.says s.now bs, vtr := { s.vtr with slots := s.vtr.slots.set n v } } :=
  raises_eq (s.setVehicle n v) bs

/-- Of two writes of one slot the later stands, whatever is raised between them. -/
theorem setVehicle_raise_setVehicle (s : State) (n : SlotNo) (v w : Option Vehicle) (b : NoticeBody) :
    ((s.setVehicle n v).raise b).setVehicle n w = (s.setVehicle n w).raise b := by
  simp [raise_eq, State.setVehicle]

/-! ## Fault events (R158–R160) -/

theorem applyFault_of_free (free : s.vehicle n = none) (e : FaultEvent) : s.applyFault n e = s := by
  simp [State.applyFault, free]

theorem poleFault_of_unheld {g : GateNo} (unheld : s.holder g = none) (missing : Missing) :
    s.poleFault g missing = s.raise (.strayPoleFault g missing s.now) := by
  simp [State.poleFault, unheld]

theorem Vehicle.turnsFaulted_iff : v.turnsFaulted = true ↔ 8 ≤ v.suspicion ∧ v.flags.faulted = false := by
  simp [Vehicle.turnsFaulted]

/-- R160: the record once FAULTED has been judged. -/
def Vehicle.judgedFaulted (v : Vehicle) : Vehicle :=
  { v with flags := { v.flags with faulted := v.flags.faulted || decide (8 ≤ v.suspicion) } }

theorem Vehicle.judgedFaulted_of_turns (turns : v.turnsFaulted = true) :
    v.judgedFaulted = { v with flags := { v.flags with faulted := true } } := by
  simp [Vehicle.judgedFaulted, (Vehicle.turnsFaulted_iff.mp turns).1]

theorem Vehicle.judgedFaulted_of_stays (stays : ¬v.turnsFaulted = true) : v.judgedFaulted = v := by
  have faulted : (v.flags.faulted || decide (8 ≤ v.suspicion)) = v.flags.faulted := by
    cases marked : v.flags.faulted
    · simpa [Vehicle.turnsFaulted_iff, marked] using stays
    · rfl
  rw [Vehicle.judgedFaulted, faulted]

/-- The notices of a fault event that has left the record `w`, FAULTED not yet judged (R159, R160). -/
def faultNotices (now : Time) (n : SlotNo) (e : FaultEvent) (w : Vehicle) : List NoticeBody :=
  [.vehicleFault n w.fleet w.segment e e.points w.suspicion w.flags now] ++
    if 8 ≤ w.suspicion ∧ w.flags.faulted = false
    then [.faultedEntered n w.fleet w.segment w.suspicion { w.flags with faulted := true } now] else []

theorem applyFault_of_vehicle {w : Vehicle} (used : s.vehicle n = some v)
    (hw : w = v.faulted e (later s.now s.sst.working.zone.tDecay)) :
    s.applyFault n e = (faultNotices s.now n e w).foldl State.raise (s.setVehicle n (some w.judgedFaulted)) := by
  have fleet : w.fleet = v.fleet := by rw [hw, Vehicle.faulted]
  have segment : w.segment = v.segment := by rw [hw, Vehicle.faulted]
  simp only [State.applyFault, used, ← hw, faultNotices, ← fleet, ← segment, ← Vehicle.turnsFaulted_iff]
  split
  next turns => rw [setVehicle_raise_setVehicle, Vehicle.judgedFaulted_of_turns turns]; rfl
  next stays => rw [Vehicle.judgedFaulted_of_stays stays]; rfl

/-! ## Decay (R161) -/

/-- DECAY_TIMER_EXPIRY is an event of the tracker. -/
theorem exec_decayTimerExpiry (powered : s.powered = true) (n : SlotNo) :
    exec (.decayTimerExpiry n) s = .next (s.decayExpire n).transmit :=
  congrArg _ (event_powered (fun s => s.decayExpire n) powered)

theorem decayExpire_of_not_due (idle : ∀ v, s.vehicle n = some v → isDue s.now v.decay = false) : s.decayExpire n = s := by
  unfold State.decayExpire
  split
  next => rfl
  next v used => simp [idle v used]

theorem decayExpire_of_above_one (used : s.vehicle n = some v) (due : isDue s.now v.decay = true) (above : 1 < v.suspicion) :
    s.decayExpire n = s.setVehicle n (some
      { v with suspicion := v.suspicion - 1, decay := some (later s.now s.sst.working.zone.tDecay) }) := by
  have left : v.suspicion - 1 ≠ 0 := by omega
  simp [State.decayExpire, used, due, State.Vehicle.decayed, left]

theorem decayExpire_of_le_one (used : s.vehicle n = some v) (due : isDue s.now v.decay = true) (last : v.suspicion ≤ 1) :
    s.decayExpire n = List.foldl State.raise
      (s.setVehicle n (some { v with suspicion := 0, decay := none, flags := { v.flags with faulted := false } }))
      (if v.flags.faulted = true then [.faultedCleared n v.fleet { v.flags with faulted := false } s.now] else []) := by
  have spent : v.suspicion - 1 = 0 := by omega
  simp only [State.decayExpire, used, due, State.Vehicle.decayed, spent, if_true]
  cases v.flags.faulted <;> rfl

/-! ## VEHICLE_CLEAR (R163) -/

theorem serveVehicleClear_of_ge {b : Byte} (above : 48 ≤ b.toNat) : s.serveVehicleClear b = (.refuse .badIndex, s) := by
  simp [State.serveVehicleClear, indexOf, Nat.not_lt.mpr above]

theorem serveVehicleClear_of_free {b : Byte} (named : b.toNat = n.val) (free : s.vehicle n = none) :
    s.serveVehicleClear b = (.refuse .state, s) := by
  simp [State.serveVehicleClear, indexOf, named, free]

theorem serveVehicleClear_of_vehicle {b : Byte} (named : b.toNat = n.val) (used : s.vehicle n = some v) :
    s.serveVehicleClear b = (.ok (.cleared v.suspicion v.flags), s.setVehicle n (some (State.Vehicle.absolved v))) := by
  simp [State.serveVehicleClear, indexOf, named, used]

/-- VEHICLE_CLEAR is the dispatch of its request (R182). -/
theorem exec_vehicleClear (tag b : Byte) (s : State) :
    exec (.vehicleClear tag (some b)) s =
      .next (s.request (.vehicleClear tag (some b)) 0x1D tag (some b) State.serveVehicleClear) := rfl

theorem vehicleClear_onlyReplies {tag b : Byte} {a : Answer} (ready : Ready s (.vehicleClear tag (some b)))
    (served : s.dequeue.serveVehicleClear b = (a, s.dequeue)) : OnlyReplies (.vehicleClear tag (some b)) s 0x1D tag a :=
  (exec_vehicleClear tag b s).trans (congrArg _ (request_only ready served))

end Sys2Proof.Machine

namespace Sys2Proof.Proofs

open Sys2Proof Sys2Proof.Machine

/-- Settles O30: a fault event and a decay each write the record of their slot, by whether FAULTED turns and whether suspicion is
left. -/
theorem suspicionRisesAndDecays : Obligations.SuspicionRisesAndDecays := by
  constructor
  · intro s n e
    refine ⟨fun free => applyFault_of_free free e, fun g missing unheld => poleFault_of_unheld unheld missing, ?_⟩
    intro v points sus flags used points_eq sus_eq flags_eq
    obtain rfl : points = e.points := points_eq.trans (by cases e <;> rfl)
    obtain rfl : flags = e.mark v.flags := flags_eq.trans (by cases e <;> rfl)
    subst sus_eq
    exact (applyFault_of_vehicle used rfl).trans (writtenVehicle_eq s n _ _)
  · intro s n powered
    refine ⟨fun idle => ?_, fun v e used running come => ?_⟩
    · rw [NothingToDo, exec_decayTimerExpiry powered, decayExpire_of_not_due idle, transmit_eq]
    · have due : isDue s.now v.decay = true := by rw [running, isDue, come]
      refine ⟨fun above => ?_, fun last => ?_⟩
      · rw [exec_decayTimerExpiry powered, decayExpire_of_above_one used due above]
        rfl
      · rw [exec_decayTimerExpiry powered, decayExpire_of_le_one used due last, writtenVehicle_eq]
        rfl

/-- Settles O29: by the slot named, out of range, free or in use. -/
theorem vehicleIsCleared : Obligations.VehicleIsCleared := by
  intro s tag b ready
  refine ⟨fun above => vehicleClear_onlyReplies ready (serveVehicleClear_of_ge above), fun n named => ⟨fun free => ?_, ?_⟩⟩
  · exact vehicleClear_onlyReplies ready (serveVehicleClear_of_free (s := s.dequeue) named free)
  · intro v used
    rw [exec_vehicleClear, request_served ready (serveVehicleClear_of_vehicle (s := s.dequeue) named used)]
    rfl

end Sys2Proof.Proofs
end
